-- ==== Sys2Proof/Word.lean ====
section
/-!
DEFINITION. The word types of the engine (00_scope.md R5, R6: every value is an unsigned bit vector).
-/

namespace Sys2Proof

/-- `u8`: one exchange, one register, one configuration byte (R5 `DW`). -/
abbrev Byte := BitVec 8

/-- The 5-bit address field of a command byte (R5 `AW`, R50 `ADR`). -/
abbrev Adr := BitVec 5

/-- The 4-bit host command code (R60). -/
abbrev Hcmd := BitVec 4

/-- `u24`: a result value (R5 `RW`). -/
abbrev U24 := BitVec 24

/-- `u32`: the return register (R5 `RET_W`). -/
abbrev U32 := BitVec 32

/-- A register map or a preset: 17 bytes, index 0 first (R5 `NCFG`). -/
abbrev Cfg := Vector Byte 17

end Sys2Proof
end

