-- ==== Sys2Proof/Config.lean ====
section
/-!
DEFINITION. The implementation parameters of 00_scope.md R5, and the values the spec leaves open as opaque constants.
-/

namespace Sys2Proof.Config

/-- `ADDR_MASK` (R5). -/
def addrMask : Byte := 0x1F
/-- `OPC_POWER_RESET` (R5). -/
def opcPowerReset : Byte := 0x30
/-- `OPC_INIT` (R5). -/
def opcInit : Byte := 0x18
/-- `OPC_WRITE` (R5). -/
def opcWrite : Byte := 0x80
/-- `OPC_READ` (R5). -/
def opcRead : Byte := 0x40
/-- `OPC_READ_RESULT` (R5). -/
def opcReadResult : Byte := 0x60

/-- `SLOT_REFID_A` (R5, R104). -/
def slotRefidA : Byte := 8
/-- `SLOT_TSTOP_A` (R5, R104). -/
def slotTstopA : Byte := 11
/-- `SLOT_REFID_B` (R5, R104). -/
def slotRefidB : Byte := 20
/-- `SLOT_TSTOP_B` (R5, R104). -/
def slotTstopB : Byte := 23

/-- `F_SCLK` in hertz (R5). -/
def fSclk : Nat := 50000000
/-- `T_SETTLE_RESET` in microseconds (R5): 5 ms. -/
def tSettleReset : Nat := 5000
/-- `T_SETTLE_INIT` in microseconds (R5): 1 ms. -/
def tSettleInit : Nat := 1000
/-- `T_BACKOFF` in microseconds (R5): 1 s. -/
def tBackoff : Nat := 1000000

/-- The default of `DUMMY_TX` (R5, D6). The machine reads the parameter `State.dummyTx`, never this constant: the
constant is only what State.reset puts there, so a statement about every state holds for every `DUMMY_TX`
(log entry 12). -/
def dummyTx : Byte := 0x00

/-- `PRESET_SINGLE` (R5, R20): OPEN, no value may be assumed (log entry 11). -/
opaque presetSingle : Cfg
/-- `PRESET_DUAL` (R5, R20): OPEN, no value may be assumed (log entry 11). -/
opaque presetDual : Cfg
/-- `CS_ID` (R5, R140): OPEN, bound at construction, read by no rule (log entry 22). -/
opaque csId : Nat

/-- Free value: the `n`-th received byte an oracle with nothing listed supplies (R8, R43; log entry 6). -/
opaque freeRx : Nat → Byte
/-- Free value: what `RET` holds while the spec leaves it unspecified (R19; log entry 10). -/
opaque freeRet : Nat → U32

/-- What an unlisted byte of the reference remote's memories reads as: `0x00`, its start value in
95_test_vectors.md section 0 (log entry 20). -/
def remoteFill : Byte := 0x00

end Sys2Proof.Config
end

