-- ==== Sys2Proof/Syntax.lean ====
section
/-!
DEFINITION. The instructions: one constructor per row of spec/opcode_table.json, the seven wire frame kinds (R51) and the
ten host operations (R60); and the words that carry them.
-/

namespace Sys2Proof

/-- One constructor per row of the opcode table. A wire row is one frame of that kind; a host row is the issue of
that operation. A `cfg` operand is "a list of exactly 17 8-bit unsigned numbers, element 0 first" (R60), which
`WellFormed` checks. `READ_CONFIG` carries nothing from the engine to the remote, so its row has no operand: the
frame compares what it receives with the `CFG` latch (R93, R111; log entry 24). -/
inductive Instr where
  /-- `POWER_RESET` (R81). -/
  | powerReset
  /-- `INIT_START` (R84). -/
  | initStart
  /-- `WRITE_REG` (R82). -/
  | writeReg (adr : Adr) (val : Byte)
  /-- `READ_REG` (R83). -/
  | readReg (adr : Adr)
  /-- `WRITE_CONFIG` (R90). -/
  | writeConfig (cfg : List Byte)
  /-- `READ_CONFIG` (R93). -/
  | readConfig
  /-- `READ_RESULT` (R100). -/
  | readResult (adr : Adr)
  /-- `SENDOP op` (R80). -/
  | sendop (op : Byte)
  /-- `WRREG addr, val` (R82). -/
  | wrreg (addr val : Byte)
  /-- `RDREG addr` (R83). -/
  | rdreg (addr : Byte)
  /-- `WRCFG cfg` (R90). -/
  | wrcfg (cfg : List Byte)
  /-- `VFYCFG cfg` (R93). -/
  | vfycfg (cfg : List Byte)
  /-- `RDRES base` (R100). -/
  | rdres (base : Byte)
  /-- `CFGSINGLE` (R114). -/
  | cfgsingle
  /-- `CFGDUAL` (R115). -/
  | cfgdual
  /-- `ISPRESENT` (R120). -/
  | ispresent
  /-- `ISDUAL` (R121). -/
  | isdual
deriving DecidableEq, Repr

/-- What carries an instruction to the engine: a host command code with its operand bytes in the mnemonic's order
(R60, P1 of 95_test_vectors.md), or the bytes the engine transmits inside one chip-select window (R50, R59). The
second form is the model's own way to name a wire row (log entry 2). -/
inductive PortWord where
  | host (hcmd : Hcmd) (operands : List Byte)
  | wire (bytes : List Byte)
deriving DecidableEq, Repr

end Sys2Proof
end

