-- ==== Sys2Proof/WellFormed.lean ====
section
/-!
DEFINITION. Well-formed instructions: the one operand whose type does not already bound it is the register map, which R60
wants to be exactly 17 bytes.
-/

namespace Sys2Proof

/-- R60: "`cfg` is a list of exactly 17 8-bit unsigned numbers". -/
def cfgComplete (cfg : List Byte) : Bool := cfg.length == 17

/-- Every other operand is a bit vector of the width its field has, so only the register maps need a check. -/
def Instr.wellFormed : Instr → Bool
  | .writeConfig cfg => cfgComplete cfg
  | .wrcfg cfg => cfgComplete cfg
  | .vfycfg cfg => cfgComplete cfg
  | .powerReset | .initStart | .writeReg _ _ | .readReg _ | .readConfig | .readResult _
  | .sendop _ | .wrreg _ _ | .rdreg _ | .rdres _
  | .cfgsingle | .cfgdual | .ispresent | .isdual => true

end Sys2Proof
end

