-- ==== Sys2Proof/Decode.lean ====
section
/-!
DEFINITION. The command-byte encoders (30_encoding.md R52 to R55), the command-byte classifier (R56), the decoder of host
words and of wire frames (R59, R60), and the encoder of instructions.
-/

namespace Sys2Proof

/-! ### Command bytes -/

/-- R53 `EncWriteReg`: the address is masked to 5 bits. -/
def encWriteReg (addr : Byte) : Byte := Config.opcWrite ||| (addr &&& Config.addrMask)

/-- R53 `EncReadReg`: the address is masked to 5 bits. -/
def encReadReg (addr : Byte) : Byte := Config.opcRead ||| (addr &&& Config.addrMask)

/-- R54 `EncWriteConfig`: the bare pattern. -/
def encWriteConfig : Byte := Config.opcWrite

/-- R54 `EncReadConfig`: the bare pattern. -/
def encReadConfig : Byte := Config.opcRead

/-- R55 `EncReadResult`: the base is NOT masked. -/
def encReadResult (base : Byte) : Byte := Config.opcReadResult ||| base

/-- The kinds `Decode` of R56 tells apart. -/
inductive CmdKind where
  | powerReset
  | initStart
  | write (adr : Adr)
  | read (adr : Adr)
  | readResult (adr : Adr)
  | unknown (c : Byte)
deriving DecidableEq, Repr

/-- R56 `Decode`: total on every byte; the two whole-byte constants first, then the selector in bits 7:5. -/
def decodeCmd (c : Byte) : CmdKind :=
  if c = Config.opcPowerReset then .powerReset
  else if c = Config.opcInit then .initStart
  else if c.extractLsb' 5 3 = 0b100#3 then .write (c.extractLsb' 0 5)
  else if c.extractLsb' 5 3 = 0b010#3 then .read (c.extractLsb' 0 5)
  else if c.extractLsb' 5 3 = 0b011#3 then .readResult (c.extractLsb' 0 5)
  else .unknown c

/-! ### Instructions -/

/-- Why a word is no instruction. -/
inductive Reject where
  /-- A chip-select window with no exchange: no frame (R50). -/
  | emptyFrame
  /-- A command byte R56 maps to `Unknown` (R57). -/
  | unknownCommand (c : Byte)
  /-- A payload count the table does not allow for the command byte (R59). -/
  | payloadCount (c : Byte) (n : Nat)
  /-- A host code that names no operation: `0x0`, `0xB` to `0xF` (R60). -/
  | unknownHostCode (h : Hcmd)
  /-- A host word with more or fewer operand bytes than its operation has (R60). -/
  | operandCount (h : Hcmd) (n : Nat)
deriving DecidableEq, Repr

/-- A word is an instruction or is rejected by name. -/
inductive Decoded where
  | ok (i : Instr)
  | rejected (r : Reject)
deriving DecidableEq, Repr

/-- R59: the frame is what its chip-select window transmits; the command byte and the number of payload bytes
together give its kind. -/
def decodeWire : List Byte → Decoded
  | [] => .rejected .emptyFrame
  | c :: payload =>
    match decodeCmd c with
    | .powerReset => if payload.isEmpty then .ok .powerReset else .rejected (.payloadCount c payload.length)
    | .initStart => if payload.isEmpty then .ok .initStart else .rejected (.payloadCount c payload.length)
    | .write a =>
      match payload with
      | [v] => .ok (.writeReg a v)
      | ps => if a = 0 ∧ ps.length = 17 then .ok (.writeConfig ps) else .rejected (.payloadCount c ps.length)
    | .read a =>
      match payload with
      | [_] => .ok (.readReg a)
      | ps => if a = 0 ∧ ps.length = 17 then .ok .readConfig else .rejected (.payloadCount c ps.length)
    | .readResult a =>
      if payload.length = 3 then .ok (.readResult a) else .rejected (.payloadCount c payload.length)
    | .unknown c => .rejected (.unknownCommand c)

/-- R60: the host command set, by its 4-bit code and its operand bytes. -/
def decodeHost (h : Hcmd) (operands : List Byte) : Decoded :=
  if h = 0x1#4 then
    match operands with
    | [op] => .ok (.sendop op)
    | os => .rejected (.operandCount h os.length)
  else if h = 0x2#4 then
    match operands with
    | [addr, val] => .ok (.wrreg addr val)
    | os => .rejected (.operandCount h os.length)
  else if h = 0x3#4 then
    match operands with
    | [addr] => .ok (.rdreg addr)
    | os => .rejected (.operandCount h os.length)
  else if h = 0x4#4 then
    if operands.length = 17 then .ok (.wrcfg operands) else .rejected (.operandCount h operands.length)
  else if h = 0x5#4 then
    if operands.length = 17 then .ok (.vfycfg operands) else .rejected (.operandCount h operands.length)
  else if h = 0x6#4 then
    match operands with
    | [base] => .ok (.rdres base)
    | os => .rejected (.operandCount h os.length)
  else if h = 0x7#4 then
    if operands.isEmpty then .ok .cfgsingle else .rejected (.operandCount h operands.length)
  else if h = 0x8#4 then
    if operands.isEmpty then .ok .cfgdual else .rejected (.operandCount h operands.length)
  else if h = 0x9#4 then
    if operands.isEmpty then .ok .ispresent else .rejected (.operandCount h operands.length)
  else if h = 0xA#4 then
    if operands.isEmpty then .ok .isdual else .rejected (.operandCount h operands.length)
  else .rejected (.unknownHostCode h)

/-- The decoder: total on every word. -/
def decode : PortWord → Decoded
  | .host h operands => decodeHost h operands
  | .wire bytes => decodeWire bytes

/-- The word of a well-formed instruction, from R60's codes and R51's table. `dummy` is `DUMMY_TX`, what the engine
transmits in each payload exchange of a read frame (R73). -/
def encode (dummy : Byte) : Instr → PortWord
  | .powerReset => .wire [Config.opcPowerReset]
  | .initStart => .wire [Config.opcInit]
  | .writeReg adr val => .wire [encWriteReg (adr.setWidth 8), val]
  | .readReg adr => .wire [encReadReg (adr.setWidth 8), dummy]
  | .writeConfig cfg => .wire (encWriteConfig :: cfg)
  | .readConfig => .wire (encReadConfig :: List.replicate 17 dummy)
  | .readResult adr => .wire (encReadResult (adr.setWidth 8) :: List.replicate 3 dummy)
  | .sendop op => .host 0x1#4 [op]
  | .wrreg addr val => .host 0x2#4 [addr, val]
  | .rdreg addr => .host 0x3#4 [addr]
  | .wrcfg cfg => .host 0x4#4 cfg
  | .vfycfg cfg => .host 0x5#4 cfg
  | .rdres base => .host 0x6#4 [base]
  | .cfgsingle => .host 0x7#4 []
  | .cfgdual => .host 0x8#4 []
  | .ispresent => .host 0x9#4 []
  | .isdual => .host 0xA#4 []

/-! ### The opcode table's numbering of a word -/

/-- How many operand bytes follow a host code (R60). -/
def hostOperandBytes (h : Hcmd) : Nat :=
  if h = 0x2#4 then 2
  else if h = 0x4#4 ∨ h = 0x5#4 then 17
  else if h = 0x1#4 ∨ h = 0x3#4 ∨ h = 0x6#4 then 1
  else 0

/-- How many payload bytes follow a command byte that stands alone. `0x80` and `0x40` each open two frame kinds
(R59); the table's row with the whole byte fixed is taken, the bulk one (log entry 15). -/
def wirePayloadBytes (c : Byte) : Nat :=
  if c = encWriteConfig ∨ c = encReadConfig then 17
  else
    match decodeCmd c with
    | .write _ => 1
    | .read _ => 1
    | .readResult _ => 3
    | .powerReset => 0
    | .initStart => 0
    | .unknown _ => 0

/-- The bytes of `w` that `nbits` covers, the first (least significant) one first. -/
def littleBytes : Nat → Nat → List Byte
  | 0, _ => []
  | k + 1, w => BitVec.ofNat 8 w :: littleBytes k (w / 256)

/-- `bytes`, with zeros after them up to `n` bytes. -/
def padTo (n : Nat) (bytes : List Byte) : List Byte := bytes ++ List.replicate (n - bytes.length) 0

/-- The word a table row numbers: a first byte below `0x10` is a host code (the table gives it 4 bits), any other a
command byte; no wire pattern of R51 lies below `0x10`. Bytes `nbits` does not cover are zero. -/
def tableWord (nbits w : Nat) : PortWord :=
  match littleBytes ((nbits + 7) / 8) w with
  | [] => .wire []
  | b :: rest =>
    if b.toNat < 16 then .host (b.setWidth 4) (padTo (hostOperandBytes (b.setWidth 4)) rest)
    else .wire (b :: padTo (wirePayloadBytes b) rest)

/-- What the decoder reads from the word a row of the opcode table numbers. -/
def decodeTableWord (nbits w : Nat) : Option Instr :=
  match decode (tableWord nbits w) with
  | .ok i => some i
  | .rejected _ => none

end Sys2Proof
end

