-- ==== Sys2Proof/Machine/State.lean ====
section
/-!
DEFINITION. The state of the engine (10_state.md R10 to R24), its inputs and outputs (00_scope.md R7), the reference remote
(20_memory.md R44), and the state after reset (R23, R140).
-/

namespace Sys2Proof.Machine

/-- `mode` (R12). -/
inductive Mode where
  | unset | single | dual
deriving DecidableEq, Repr

/-- Which workflow is running: the latch that holds `M` (R111). It is not `mode`. -/
inductive Channels where
  | single | dual
deriving DecidableEq, Repr

/-- `wstep` (R13). -/
inductive WStep where
  | wNone | wReset | wResetSettle | wWrite | wVerify | wRetryDiag | wBackoff | wInit | wInitSettle | wFinish
deriving DecidableEq, Repr

/-- The six primitives `cur` ranges over (R13); `NONE` is the absence of one. -/
inductive Prim where
  | sendop | wrreg | rdreg | wrcfg | vfycfg | rdres
deriving DecidableEq, Repr

/-- `phase` (R13). -/
inductive Phase where
  | idle | fCs | fCmd | fData | fClose | waiting
deriving DecidableEq, Repr

/-- A line's level (R15). -/
inductive Level where
  | high | low
deriving DecidableEq, Repr

/-- `session` (R16). -/
inductive Session where
  | closed | opened
deriving DecidableEq, Repr

/-- `BIT_ORDER` (R5). -/
inductive BitOrder where
  | msbFirst | lsbFirst
deriving DecidableEq, Repr

/-- Which clock edge samples data (R5 `SPI_MODE`). -/
inductive Edge where
  | leading | trailing
deriving DecidableEq, Repr

/-- `SPI_MODE` (R5): the clock's idle level and the sampling edge. -/
structure SpiMode where
  clockIdle : Level
  sampleOn : Edge
deriving DecidableEq, Repr

/-- Mode 0: "clock idle low, data sampled on leading edge" (R5). -/
def spiMode0 : SpiMode := ⟨.low, .leading⟩

/-- The bus trace's events (R7). A wait's duration is in microseconds and is a lower bound (R130). -/
inductive BusEvent where
  | csAssert
  | sessionOpen (rate : Nat) (order : BitOrder) (mode : SpiMode)
  | xfer (tx rx : Byte)
  | sessionClose
  | csDeassert
  | wait (d : Nat)
deriving DecidableEq, Repr

/-- The diagnostic trace's records (R133). -/
inductive DiagRecord where
  | mismatch (index : Nat) (expected actual : Byte)
  | retryRound
deriving DecidableEq, Repr

/-- What a `Ret` event carries (R7, R60). -/
inductive RetVal where
  | nothing
  | byte (b : Byte)
  | bool (b : Bool)
  | result (v : U24)
deriving DecidableEq, Repr

/-- What the host side presents to the engine between two transitions (R7, R140). -/
inductive HostEvent where
  /-- Nothing is presented. -/
  | quiet
  /-- `Issue(op, operands)` (R7), or the model's own request for one wire frame (log entry 2). -/
  | issue (w : PortWord)
  /-- The reset input (R140, R142). -/
  | reset
deriving DecidableEq, Repr

/-- Bytes by address, in one canonical form: addresses strictly rising and below 32, no entry equal to
`Config.remoteFill`. -/
abbrev Memory := List Host.Cell

/-- `sel` of the reference remote (R44). -/
inductive RemoteSel where
  | none | wr | rd | res | other
deriving DecidableEq, Repr

/-- The reference remote `RefTDC` (R44): the spec's own test oracle, not the chip. -/
structure RefTdc where
  reg : Memory
  res : Memory
  sel : RemoteSel
  ptr : Adr
deriving DecidableEq, Repr

/-- Where received bytes come from. -/
inductive Remote where
  /-- R8, R43: the listed bytes, in order, then free bytes (log entry 6). -/
  | oracle (script : List Byte)
  /-- R44 (log entry 7). -/
  | reference (r : RefTdc)
  /-- R96 (a): a chip that answers the same byte in every exchange (log entry 7). -/
  | silent (z : Byte)
deriving DecidableEq, Repr

/-- Why the machine stops with a fault. The engine itself raises no exception (R125). -/
inductive Fault where
  /-- Raised by `advance` in a sequencer position for which R74 and R111 have no row. No run from reset reaches one.
  Safe: the machine stops where the spec says nothing (log entry 21). -/
  | noTransition
deriving DecidableEq, Repr

/-- Why an instruction has no meaning. -/
inductive Refusal where
  /-- Raised by an arm of `exec` for an instruction not modelled; no arm raises it. Safe. -/
  | notModelled (mnemonic : String)
deriving DecidableEq, Repr

structure State where
  /-- R11. -/
  present : Bool
  /-- R12. -/
  mode : Mode
  /-- R13. -/
  wstep : WStep
  /-- R13: `none` is `NONE`. -/
  cur : Option Prim
  /-- R13. -/
  phase : Phase
  /-- R14. -/
  idx : Nat
  /-- R111: the latch that holds `M`. -/
  wsel : Channels
  /-- R15. -/
  cs : Level
  /-- R16. -/
  session : Session
  /-- R17 `OP`. -/
  op : Byte
  /-- R17 `ADDR`. -/
  addr : Byte
  /-- R17 `VAL`. -/
  val : Byte
  /-- R17 `BASE`. -/
  base : Byte
  /-- R17 `CFG[0..16]`. -/
  cfg : Cfg
  /-- R18 `RDATA`. -/
  rdata : Byte
  /-- R19 `ACC`. -/
  acc : U24
  /-- R19 `RET`. -/
  ret : U32
  /-- R20 `PRESET_SINGLE`, read-only. -/
  presetSingle : Cfg
  /-- R20 `PRESET_DUAL`, read-only. -/
  presetDual : Cfg
  /-- R5 `DUMMY_TX`, a parameter. -/
  dummyTx : Byte
  /-- The bus trace, oldest event first (R7). -/
  bus : List BusEvent
  /-- The diagnostic trace, oldest record first (R133). -/
  diag : List DiagRecord
  /-- The `Ret` events, oldest first (R7). -/
  rets : List RetVal
  /-- The host events still to come, next one first (log entry 4). -/
  inputs : List HostEvent
  /-- What answers the exchanges (R8, R43, R44). -/
  remote : Remote
  /-- How many free values have been drawn (log entry 6). -/
  draws : Nat
deriving DecidableEq, Repr

/-- The state after engine reset (R23, R140). The latches, for which R23 says "unspecified", are zero (log entry 8). -/
def State.reset : State where
  present := false
  mode := .unset
  wstep := .wNone
  cur := none
  phase := .idle
  idx := 0
  wsel := .single
  cs := .high
  session := .closed
  op := 0
  addr := 0
  val := 0
  base := 0
  cfg := Vector.replicate 17 0
  rdata := 0
  acc := 0
  ret := 0
  presetSingle := Config.presetSingle
  presetDual := Config.presetDual
  dummyTx := Config.dummyTx
  bus := []
  diag := []
  rets := []
  inputs := []
  remote := .oracle []
  draws := 0

end Sys2Proof.Machine
end

