-- ==== Sys2Proof/Machine/Ops.lean ====
section
/-!
DEFINITION. The named operations: the reference remote's memories (20_memory.md R44), the remote's answer to an exchange, the
state's traces and return register, and engine reset. The engine has no exception to take and none to return from
(60_exceptions.md R125, R131, R132), so no operation for either stands here.
-/

namespace Sys2Proof.Machine

/-! ### Memories of the reference remote -/

/-- `MemRead(addr, 1)` (R8, R44). -/
def Memory.read : Memory → Nat → Byte
  | [], _ => Config.remoteFill
  | (b, v) :: rest, a => if b = a then v else Memory.read rest a

/-- `MemWrite(addr, 1, v)` (R8, R44), keeping the canonical form. -/
def Memory.write : Memory → Nat → Byte → Memory
  | [], a, v => if v = Config.remoteFill then [] else [(a, v)]
  | (b, w) :: rest, a, v =>
    if a < b then (if v = Config.remoteFill then (b, w) :: rest else (a, v) :: (b, w) :: rest)
    else if a = b then (if v = Config.remoteFill then rest else (a, v) :: rest)
    else (b, w) :: Memory.write rest a v

/-- The canonical form: addresses strictly rising and in 0..31, no entry equal to what an unlisted one reads as. -/
def Memory.wf : Memory → Bool
  | [] => true
  | (a, v) :: rest =>
    decide (a < 32) && v != Config.remoteFill && rest.all (fun c => decide (a < c.1)) && Memory.wf rest

/-! ### The remote -/

/-- R44, `on CsAssert: sel <- None`. The other kinds of remote keep nothing about frames. -/
def Remote.onCsAssert : Remote → Remote
  | .oracle script => .oracle script
  | .reference r => .reference { r with sel := .none }
  | .silent z => .silent z

/-- R44, `on Xfer(tx, rx)`: the byte answered and the remote after it. The pointer wraps modulo 32. -/
def RefTdc.exchange (tx : Byte) (r : RefTdc) : Byte × RefTdc :=
  match r.sel with
  | .none =>
    match decodeCmd tx with
    | .write a => (0x00, { r with sel := .wr, ptr := a })
    | .read a => (0x00, { r with sel := .rd, ptr := a })
    | .readResult b => (0x00, { r with sel := .res, ptr := b })
    | .powerReset | .initStart | .unknown _ => (0x00, { r with sel := .other })
  | .wr => (0x00, { r with reg := r.reg.write r.ptr.toNat tx, ptr := r.ptr + 1 })
  | .rd => (r.reg.read r.ptr.toNat, { r with ptr := r.ptr + 1 })
  | .res => (r.res.read r.ptr.toNat, { r with ptr := r.ptr + 1 })
  | .other => (0x00, r)

/-- The byte the remote answers to `tx`, and the remote after it (R8, R43, R44, R96). An oracle with nothing listed
answers the free byte numbered `draws`. -/
def Remote.exchange (tx : Byte) (draws : Nat) : Remote → Byte × Remote
  | .oracle [] => (Config.freeRx draws, .oracle [])
  | .oracle (b :: rest) => (b, .oracle rest)
  | .reference r => ((r.exchange tx).1, .reference (r.exchange tx).2)
  | .silent z => (z, .silent z)

/-! ### The engine -/

/-- R13: idle when `phase = IDLE` and `wstep = W_NONE`. -/
def State.isIdle (s : State) : Bool := s.phase == .idle && s.wstep == .wNone

/-- R13: busy otherwise. -/
def State.busy (s : State) : Bool := !s.isIdle

/-- Appends an event to the bus trace (R7). -/
def State.emit (e : BusEvent) (s : State) : State := { s with bus := s.bus ++ [e] }

/-- `Diag(record)` (R8). -/
def State.report (d : DiagRecord) (s : State) : State := { s with diag := s.diag ++ [d] }

/-- `RET` while it is unspecified: a free value (R19; log entry 10). -/
def State.loseRet (s : State) : State := { s with ret := Config.freeRet s.draws, draws := s.draws + 1 }

/-- What a value puts into `RET` (R19): zero-extended to 32 bits, and nothing for an operation that returns
nothing. -/
def RetVal.word : RetVal → Option U32
  | .nothing => none
  | .byte b => some (b.setWidth 32)
  | .bool b => some (if b then 1 else 0)
  | .result v => some (v.setWidth 32)

/-- `return v` (R8): sets `RET` where there is a value and appends `Ret(v)` on the host side. -/
def State.reply (v : RetVal) (s : State) : State :=
  { s with ret := v.word.getD s.ret, rets := s.rets ++ [v] }

/-- `Exchange(tx) -> rx` (R8, R73): appends `Xfer(tx, rx)` and leaves `rx` in `RDATA` (R18). -/
def State.exchange (tx : Byte) (s : State) : State :=
  { s with
    rdata := (s.remote.exchange tx s.draws).1
    remote := (s.remote.exchange tx s.draws).2
    draws := s.draws + 1
    bus := s.bus ++ [.xfer tx (s.remote.exchange tx s.draws).1] }

/-- `Wait(d)` (R8, R130): appends the event and holds the engine in `WAITING`. -/
def State.enterWait (d : Nat) (s : State) : State := { s with bus := s.bus ++ [.wait d], phase := .waiting }

/-- Engine reset (R140, R142): every element of R23's table takes its reset value, an operation in progress is
abandoned without a `Ret`, and nothing is put on the bus. The parameters, the remote (R141) and what the host still
has to say stay (log entry 14). -/
def State.engineReset (s : State) : State :=
  { State.reset with
    presetSingle := s.presetSingle
    presetDual := s.presetDual
    dummyTx := s.dummyTx
    inputs := s.inputs
    remote := s.remote
    draws := s.draws }

/-- The engine outside every operation, whatever else it holds: what `withFetchWord` needs for the port to be read. -/
def State.atRest (s : State) : State :=
  { s with phase := .idle, wstep := .wNone, cur := none, cs := .high, session := .closed }

end Sys2Proof.Machine
end

