-- ==== Sys2Proof/Machine/Operands.lean ====
section
/-!
DEFINITION. Operand forms: the latches an Issue loads (10_state.md R17), the command byte and payload bytes built from them
(30_encoding.md R52 to R55, R58, 40_transaction_framing.md R73), the presets (R106), and the result reassembler (R101).
-/

namespace Sys2Proof.Machine

/-- Loads `OP` (R17). -/
def State.latchOp (op : Byte) (s : State) : State := { s with op := op }

/-- Loads `ADDR` (R17). -/
def State.latchAddr (addr : Byte) (s : State) : State := { s with addr := addr }

/-- Loads `VAL` (R17). -/
def State.latchVal (val : Byte) (s : State) : State := { s with val := val }

/-- Loads `BASE` (R17). -/
def State.latchBase (base : Byte) (s : State) : State := { s with base := base }

/-- Loads `CFG[0..16]` (R17). -/
def State.latchCfg (cfg : Cfg) (s : State) : State := { s with cfg := cfg }

/-- `ACC <- 0` (R100). -/
def State.clearAcc (s : State) : State := { s with acc := 0 }

/-- A register-map operand: exactly 17 bytes, or no operand of R60 at all. -/
def cfgOfList (l : List Byte) : Option Cfg :=
  if h : l.length = 17 then some ⟨l.toArray, by simpa using h⟩ else none

/-- `CFG[i]`. An index of 17 or more is never used (R14). -/
def cfgByte (c : Cfg) (i : Nat) : Byte := c.toList.getD i 0

/-- The preset of a workflow (R106). -/
def State.preset (s : State) : Channels → Cfg
  | .single => s.presetSingle
  | .dual => s.presetDual

/-- `M` as a value of `mode` (R110). -/
def Channels.toMode : Channels → Mode
  | .single => .single
  | .dual => .dual

/-- Payload length by primitive (R58). -/
def Prim.payloadLen : Prim → Nat
  | .sendop => 0
  | .wrreg => 1
  | .rdreg => 1
  | .wrcfg => 17
  | .vfycfg => 17
  | .rdres => 3

/-- The command byte of a primitive, from the operand latches (R52 to R55, R73). -/
def State.cmdByte (s : State) : Prim → Byte
  | .sendop => s.op
  | .wrreg => encWriteReg s.addr
  | .rdreg => encReadReg s.addr
  | .wrcfg => encWriteConfig
  | .vfycfg => encReadConfig
  | .rdres => encReadResult s.base

/-- The byte transmitted in payload exchange `idx` (R73): data for a write, `DUMMY_TX` for a read. SENDOP has no
payload exchange. -/
def State.txByte (s : State) : Prim → Byte
  | .sendop => s.dummyTx
  | .wrreg => s.val
  | .rdreg => s.dummyTx
  | .wrcfg => cfgByte s.cfg s.idx
  | .vfycfg => s.dummyTx
  | .rdres => s.dummyTx

/-- One step of the reassembler (R101): `ACC <- (ACC << 8) | zext_24(rx)`. -/
def State.accumulate (s : State) : State := { s with acc := (s.acc <<< 8) ||| s.rdata.setWidth 24 }

/-- R101: `(b0 << 16) | (b1 << 8) | b2`, the first byte received the most significant. -/
def assemble (b0 b1 b2 : Byte) : U24 :=
  (b0.setWidth 24 <<< 16) ||| (b1.setWidth 24 <<< 8) ||| b2.setWidth 24

/-- The bits of a byte in the order they go on the wire inside a session opened with that bit order (R5, R33). -/
def wireBits : BitOrder → Byte → List Bool
  | .msbFirst, b => (List.range 8).map (fun k => b.getLsbD (7 - k))
  | .lsbFirst, b => (List.range 8).map (fun k => b.getLsbD k)

end Sys2Proof.Machine
end

