-- ==== Sys2Proof/Machine/Flags.lean ====
section
/-!
DEFINITION. The engine's only status flag, `present` (10_state.md R11): how a verify sets and clears it (42_bulk_config.md
R93 to R95).
-/

namespace Sys2Proof.Machine

/-- A verify starts: `present <- true` (R93, "optimistic"). -/
def State.verifyStart (s : State) : State := { s with present := true }

/-- One byte of a verify (R93, R94): equality of all 8 bits with `CFG[idx]`; a difference clears `present` and is
reported with its index. -/
def State.verifyByte (s : State) : State :=
  { s with
    present := if s.rdata = cfgByte s.cfg s.idx then s.present else false
    diag :=
      if s.rdata = cfgByte s.cfg s.idx then s.diag
      else s.diag ++ [.mismatch s.idx (cfgByte s.cfg s.idx) s.rdata] }

/-- What a primitive does with the byte just received in a payload exchange (R73): RDREG returns it at the end of
its frame (it is already in `RDATA`), VFYCFG compares it, RDRES accumulates it, the others discard it. -/
def State.onPayload (s : State) : Prim → State
  | .sendop => s
  | .wrreg => s
  | .rdreg => s
  | .wrcfg => s
  | .vfycfg => s.verifyByte
  | .rdres => s.accumulate

/-- What a primitive returns when its frame has ended (R19, R80 to R83, R90, R93, R100). -/
def State.result (s : State) : Prim → RetVal
  | .sendop => .nothing
  | .wrreg => .nothing
  | .rdreg => .byte s.rdata
  | .wrcfg => .nothing
  | .vfycfg => .bool s.present
  | .rdres => .result s.acc

end Sys2Proof.Machine
end

