-- ==== Sys2Proof/Machine/Frame.lean ====
section
/-!
DEFINITION. The frame as a state machine (40_transaction_framing.md R74): one definition per row of its table.
-/

namespace Sys2Proof.Machine

/-- R71: the session is opened with the same three parameters in every frame. -/
def openEvent : BusEvent := .sessionOpen Config.fSclk .msbFirst spiMode0

/-- R74 row 1: a primitive starts. -/
def State.startFrame (p : Prim) (s : State) : State :=
  { s with
    cs := .low
    bus := s.bus ++ [.csAssert]
    remote := s.remote.onCsAssert
    phase := .fCs
    cur := some p }

/-- R74 row 2. -/
def State.openSession (s : State) : State :=
  { s with session := .opened, bus := s.bus ++ [openEvent], phase := .fCmd }

/-- R74 row 3: the command byte; the byte received is not used. -/
def State.sendCommand (p : Prim) (s : State) : State :=
  { s.exchange (s.cmdByte p) with idx := 0, phase := .fData }

/-- R74 row 4: one payload exchange and the primitive's per-byte action. -/
def State.payloadByte (p : Prim) (s : State) : State :=
  { (s.exchange (s.txByte p)).onPayload p with idx := s.idx + 1 }

/-- R74 row 5. -/
def State.closeSession (s : State) : State :=
  { s with session := .closed, bus := s.bus ++ [.sessionClose], phase := .fClose }

/-- R74 row 6, the part all primitives share. -/
def State.releaseCs (s : State) : State :=
  { s with cs := .high, bus := s.bus ++ [.csDeassert], phase := .idle, cur := none }

end Sys2Proof.Machine
end

