-- ==== Sys2Proof/Machine/Sequencer.lean ====
section
/-!
DEFINITION. The sequencer: the workflow positions (44_configure_workflows.md R111), the transitions between frames, which
frame may begin when (R71), and the acceptance of an Issue (R75).
-/

namespace Sys2Proof.Machine

/-- The primitive whose frame a workflow step runs (R111). -/
def WStep.prim : WStep → Option Prim
  | .wReset => some .sendop
  | .wWrite => some .wrcfg
  | .wVerify => some .vfycfg
  | .wInit => some .sendop
  | .wNone | .wResetSettle | .wRetryDiag | .wBackoff | .wInitSettle | .wFinish => none

/-- The wait a workflow step performs (R111, R130). -/
def WStep.wait : WStep → Option Nat
  | .wResetSettle => some Config.tSettleReset
  | .wBackoff => some Config.tBackoff
  | .wInitSettle => some Config.tSettleInit
  | .wNone | .wReset | .wWrite | .wVerify | .wRetryDiag | .wInit | .wFinish => none

/-- The frame the workflow step calls for, as the wire row it is (R107, R111): what the sequencer runs next when it
stands between two frames. -/
def workflowFrame (s : State) : Option Instr :=
  if s.phase = .idle then
    match s.wstep with
    | .wReset => some .powerReset
    | .wWrite => some (.writeConfig s.cfg.toList)
    | .wVerify => some .readConfig
    | .wInit => some .initStart
    | .wNone | .wResetSettle | .wRetryDiag | .wBackoff | .wInitSettle | .wFinish => none
  else none

/-- Where a workflow goes at the `CsDeassert` of a step's frame (R111). The branch out of `W_VERIFY` is the engine's
only conditional transition (R108). -/
def WStep.afterFrame (present : Bool) : WStep → Option WStep
  | .wReset => some .wResetSettle
  | .wWrite => some .wVerify
  | .wVerify => some (if present then .wInit else .wRetryDiag)
  | .wInit => some .wInitSettle
  | .wNone | .wResetSettle | .wRetryDiag | .wBackoff | .wInitSettle | .wFinish => none

/-- Where a workflow goes when a step's wait is over (R111). -/
def WStep.afterWait : WStep → Option WStep
  | .wResetSettle => some .wWrite
  | .wBackoff => some .wVerify
  | .wInitSettle => some .wFinish
  | .wNone | .wReset | .wWrite | .wVerify | .wRetryDiag | .wInit | .wFinish => none

/-- `W_FINISH` (R110, R111): `mode <- M`, `RET <- 1`, `Ret(true)`. -/
def State.finish (s : State) : State :=
  ({ s with mode := s.wsel.toMode, wstep := .wNone } : State).reply (.bool true)

/-- R74 row 6: a host-issued primitive completes with its `Ret`; inside a workflow the next step follows, without
one (log entry 19). -/
def endFrame (p : Prim) (s : State) : Host.Outcome State Fault Refusal :=
  if s.wstep = .wNone then .next (s.releaseCs.reply (s.result p))
  else
    match s.wstep.afterFrame s.present with
    | some w => .next { s.releaseCs with wstep := w }
    | none => .fault .noTransition

/-- One transition of the sequencer, other than the start of a frame: the rows of R74 and of R111. An idle engine
stays as it is (R143). A position with no row is a fault no run from reset reaches (log entry 21). -/
def advance (s : State) : Host.Outcome State Fault Refusal :=
  match s.phase with
  | .idle =>
    match s.wstep with
    | .wNone => .next s
    | .wResetSettle => .next (s.enterWait Config.tSettleReset)
    | .wRetryDiag => .next { s.report .retryRound with wstep := .wBackoff }
    | .wBackoff => .next (s.enterWait Config.tBackoff)
    | .wInitSettle => .next (s.enterWait Config.tSettleInit)
    | .wFinish => .next s.finish
    | .wReset | .wWrite | .wVerify | .wInit => .fault .noTransition
  | .waiting =>
    match s.wstep.afterWait with
    | some w => .next { s with phase := .idle, wstep := w }
    | none => .fault .noTransition
  | .fCs =>
    match s.cur with
    | some _ => .next s.openSession
    | none => .fault .noTransition
  | .fCmd =>
    match s.cur with
    | some p => .next (s.sendCommand p)
    | none => .fault .noTransition
  | .fData =>
    match s.cur with
    | some p =>
      if s.idx < p.payloadLen then .next (s.payloadByte p)
      else if s.idx = p.payloadLen then .next s.closeSession
      else .fault .noTransition
    | none => .fault .noTransition
  | .fClose =>
    match s.cur with
    | some p => endFrame p s
    | none => .fault .noTransition

/-- A host-issued primitive: accepted only by an idle engine (R75), which latches the operands and begins the frame
(R74 row 1). A busy engine turns it away unchanged (R126 X9; log entry 5). `RET` is unspecified from here to the
`Ret` (R19; log entry 10). -/
def issuePrim (p : Prim) (latch : State → State) (s : State) : Host.Outcome State Fault Refusal :=
  if s.busy then .next s else .next ((latch s.loseRet).startFrame p)

/-- A wire frame (R71): it begins in an idle engine, as the host operation that issues it would, or between the
frames of a workflow if it is the frame the workflow step calls for. Otherwise `BeginFrame`'s requirement fails and
nothing happens (log entry 23). -/
def runFrame (i : Instr) (p : Prim) (latch : State → State) (s : State) : Host.Outcome State Fault Refusal :=
  if s.isIdle then .next ((latch s.loseRet).startFrame p)
  else if workflowFrame s = some i then .next ((latch s).startFrame p)
  else .next s

/-- The first row of R111: an idle engine latches `M`, copies the preset (R106) and goes to `W_RESET`; a busy one
turns the Issue away (R75). -/
def issueWorkflow (m : Channels) (s : State) : Host.Outcome State Fault Refusal :=
  if s.busy then .next s
  else .next { s.loseRet with
    wsel := m
    cfg := s.preset m
    op := Config.opcPowerReset
    wstep := .wReset }

/-- A status accessor (45_status_accessors.md): an idle engine answers at once, with no bus event; a busy one turns
the Issue away (R75). -/
def issueAccessor (v : RetVal) (s : State) : Host.Outcome State Fault Refusal :=
  if s.busy then .next s else .next (s.reply v)

end Sys2Proof.Machine
end

