-- ==== Sys2Proof/Machine/Bulk.lean ====
section
/-!
DEFINITION. Bulk configuration write and verify (42_bulk_config.md). An operand list that is not 17 bytes is no operand of
R60: such an Issue is turned away like an undefined code (log entry 28).
-/

namespace Sys2Proof.Machine

/-- `WRCFG cfg` (R90). -/
def execWrcfg (cfg : List Byte) (s : State) : Host.Outcome State Fault Refusal :=
  match cfgOfList cfg with
  | some c => issuePrim .wrcfg (State.latchCfg c) s
  | none => .next s

/-- `VFYCFG cfg` (R93): `present <- true` before the frame begins. -/
def execVfycfg (cfg : List Byte) (s : State) : Host.Outcome State Fault Refusal :=
  match cfgOfList cfg with
  | some c => issuePrim .vfycfg (fun t => (t.latchCfg c).verifyStart) s
  | none => .next s

end Sys2Proof.Machine
end

