-- ==== Sys2Proof/Machine/Registers.lean ====
section
/-!
DEFINITION. The opcode and single-register primitives (41_opcode_and_register_primitives.md). Each meaning is the accepted
Issue; the frame it begins is carried on by `advance`, transition by transition (R74).
-/

namespace Sys2Proof.Machine

/-- `SENDOP op` (R80): any byte, sent as it is. -/
def execSendop (op : Byte) (s : State) : Host.Outcome State Fault Refusal :=
  issuePrim .sendop (State.latchOp op) s

/-- `WRREG addr, val` (R82). -/
def execWrreg (addr val : Byte) (s : State) : Host.Outcome State Fault Refusal :=
  issuePrim .wrreg (fun t => (t.latchAddr addr).latchVal val) s

/-- `RDREG addr` (R83). -/
def execRdreg (addr : Byte) (s : State) : Host.Outcome State Fault Refusal :=
  issuePrim .rdreg (State.latchAddr addr) s

end Sys2Proof.Machine
end

