-- ==== Sys2Proof/Machine/Result.lean ====
section
/-!
DEFINITION. The result read (43_result_read.md).
-/

namespace Sys2Proof.Machine

/-- `RDRES base` (R100): the base is neither checked nor masked (R102), `mode` and `present` are not consulted
(R103). -/
def execRdres (base : Byte) (s : State) : Host.Outcome State Fault Refusal :=
  issuePrim .rdres (fun t => (t.latchBase base).clearAcc) s

end Sys2Proof.Machine
end

