-- ==== Sys2Proof/Machine/Status.lean ====
section
/-!
DEFINITION. The status accessors (45_status_accessors.md): pure reads, no bus activity.
-/

namespace Sys2Proof.Machine

/-- `ISPRESENT` (R120). -/
def execIspresent (s : State) : Host.Outcome State Fault Refusal := issueAccessor (.bool s.present) s

/-- `ISDUAL` (R121): true exactly when `mode = Dual`. -/
def execIsdual (s : State) : Host.Outcome State Fault Refusal := issueAccessor (.bool (s.mode == .dual)) s

end Sys2Proof.Machine
end

