-- ==== Sys2Proof/Machine/Wire.lean ====
section
/-!
DEFINITION. The seven wire frame kinds (30_encoding.md R51): each is the engine beginning one frame of that kind.
-/

namespace Sys2Proof.Machine

/-- `POWER_RESET` (R81): the SENDOP frame with command byte `0x30`. It leaves `present` and `mode` alone (R151). -/
def execPowerReset (s : State) : Host.Outcome State Fault Refusal :=
  runFrame .powerReset .sendop (State.latchOp Config.opcPowerReset) s

/-- `INIT_START` (R84): the SENDOP frame with command byte `0x18`. -/
def execInitStart (s : State) : Host.Outcome State Fault Refusal :=
  runFrame .initStart .sendop (State.latchOp Config.opcInit) s

/-- `WRITE_REG` (R82): the address field and the one payload byte go to the latches WRREG uses. -/
def execWriteReg (adr : Adr) (val : Byte) (s : State) : Host.Outcome State Fault Refusal :=
  runFrame (.writeReg adr val) .wrreg (fun t => (t.latchAddr (adr.setWidth 8)).latchVal val) s

/-- `READ_REG` (R83). -/
def execReadReg (adr : Adr) (s : State) : Host.Outcome State Fault Refusal :=
  runFrame (.readReg adr) .rdreg (State.latchAddr (adr.setWidth 8)) s

/-- `WRITE_CONFIG` (R90): 17 payload bytes from `CFG`. A list of another length is no frame of the engine (R59). -/
def execWriteConfig (cfg : List Byte) (s : State) : Host.Outcome State Fault Refusal :=
  match cfgOfList cfg with
  | some c => runFrame (.writeConfig cfg) .wrcfg (State.latchCfg c) s
  | none => .next s

/-- `READ_CONFIG` (R93, R111 `W_VERIFY`): `present <- true`, then 17 reads compared with `CFG` as it stands. -/
def execReadConfig (s : State) : Host.Outcome State Fault Refusal :=
  runFrame .readConfig .vfycfg State.verifyStart s

/-- `READ_RESULT` (R100): three reads into `ACC`. -/
def execReadResult (adr : Adr) (s : State) : Host.Outcome State Fault Refusal :=
  runFrame (.readResult adr) .rdres (fun t => (t.latchBase (adr.setWidth 8)).clearAcc) s

end Sys2Proof.Machine
end

