-- ==== Sys2Proof/Machine/Workflows.lean ====
section
/-!
DEFINITION. The two configure workflows (44_configure_workflows.md). Each meaning is the accepted Issue; R107's sequence is
carried on by `advance` and the wire frames, without a bound (R109).
-/

namespace Sys2Proof.Machine

/-- `CFGSINGLE` (R114): `Configure(Single, PRESET_SINGLE)`. -/
def execCfgsingle (s : State) : Host.Outcome State Fault Refusal := issueWorkflow .single s

/-- `CFGDUAL` (R115): `Configure(Dual, PRESET_DUAL)`. -/
def execCfgdual (s : State) : Host.Outcome State Fault Refusal := issueWorkflow .dual s

end Sys2Proof.Machine
end

