-- ==== Sys2Proof/Machine/Dispatch.lean ====
section
/-!
DEFINITION. The meaning of every instruction: one arm per constructor of `Instr`.
-/

namespace Sys2Proof.Machine

def exec (i : Instr) (s : State) : Host.Outcome State Fault Refusal :=
  match i with
  | .powerReset => Sys2Proof.Machine.execPowerReset s
  | .initStart => Sys2Proof.Machine.execInitStart s
  | .writeReg adr val => Sys2Proof.Machine.execWriteReg adr val s
  | .readReg adr => Sys2Proof.Machine.execReadReg adr s
  | .writeConfig cfg => Sys2Proof.Machine.execWriteConfig cfg s
  | .readConfig => Sys2Proof.Machine.execReadConfig s
  | .readResult adr => Sys2Proof.Machine.execReadResult adr s
  | .sendop op => Sys2Proof.Machine.execSendop op s
  | .wrreg addr val => Sys2Proof.Machine.execWrreg addr val s
  | .rdreg addr => Sys2Proof.Machine.execRdreg addr s
  | .wrcfg cfg => Sys2Proof.Machine.execWrcfg cfg s
  | .vfycfg cfg => Sys2Proof.Machine.execVfycfg cfg s
  | .rdres base => Sys2Proof.Machine.execRdres base s
  | .cfgsingle => Sys2Proof.Machine.execCfgsingle s
  | .cfgdual => Sys2Proof.Machine.execCfgdual s
  | .ispresent => Sys2Proof.Machine.execIspresent s
  | .isdual => Sys2Proof.Machine.execIsdual s

end Sys2Proof.Machine
end

