-- ==== Sys2Proof/Machine/Fetch.lean ====
section
/-!
DEFINITION. Where the next instruction comes from. The engine fetches no instructions from memory (10_state.md R13,
20_memory.md R41): the host presents one at the port, or the workflow step calls for a frame (R111).
-/

namespace Sys2Proof.Machine

/-- What one step does: run an instruction, make one transition of the sequencer, or stay. -/
inductive Fetched where
  | run (i : Instr) (s : State)
  | advance (s : State)
  | stay (s : State)
deriving Repr

/-- With nothing presented, the sequencer goes on: a workflow between two frames runs the frame its step calls for. -/
def fetchInternal (s : State) : Fetched :=
  match workflowFrame s with
  | some i => .run i s
  | none => .advance s

/-- A word at the port. A busy engine turns it away, an idle one turns away a word that is no instruction; in both
cases nothing changes but that the host has been heard (R60, R75, R126 X9 and X10; log entry 5). -/
def fetchPort (w : PortWord) (s : State) : Fetched :=
  if s.busy then .stay s
  else
    match decode w with
    | .ok i => .run i s
    | .rejected _ => .stay s

/-- The next host event, taken from the list, decides (log entry 4). -/
def fetch (s : State) : Fetched :=
  match s.inputs with
  | [] => fetchInternal s
  | .quiet :: rest => fetchInternal { s with inputs := rest }
  | .issue w :: rest => fetchPort w { s with inputs := rest }
  | .reset :: rest => .stay ({ s with inputs := rest } : State).engineReset

/-- `s` with a word at the port, ahead of everything the host still has to say, and the engine at rest, so that the
port is read (log entry 3). -/
def handWord (w : PortWord) (s : State) : State := { s.atRest with inputs := .issue w :: s.inputs }

end Sys2Proof.Machine
end

