-- ==== Sys2Proof/Machine/Step.lean ====
section
/-!
DEFINITION. One step of the machine: an instruction, one transition of the sequencer, or an event turned away.
-/

namespace Sys2Proof.Machine

def step (s : State) : Host.Outcome State Fault Refusal :=
  match fetch s with
  | .run i s' => exec i s'
  | .advance s' => advance s'
  | .stay s' => .next s'

/-- `s` with the instruction a table row's word stands for as the next thing the engine is handed (log entry 3). -/
def State.withFetchWord (s : State) (nbits w : Nat) : State := handWord (tableWord nbits w) s

end Sys2Proof.Machine
end

