-- ==== Sys2Proof/Machine/Procedures.lean ====
section
/-!
DEFINITION. The big-step procedures of files 41_ to 44_, which D1 calls normative: each host operation as one function of
states, written from its pseudocode. The step machine refines them; nothing in the machine calls them.
-/

namespace Sys2Proof.Machine

/-- `BeginFrame()` (R71). -/
def procBegin (s : State) : State :=
  { s with
    cs := .low
    session := .opened
    remote := s.remote.onCsAssert
    bus := s.bus ++ [.csAssert, openEvent] }

/-- `EndFrame()` (R72). -/
def procEnd (s : State) : State :=
  { s with
    cs := .high
    session := .closed
    phase := .idle
    cur := none
    bus := s.bus ++ [.sessionClose, .csDeassert] }

/-- The payload loop of `Frame` (R77): `k` more exchanges in ascending index order. -/
def procPayload (tx : Nat → Byte) (onrx : State → State) : Nat → State → State
  | 0, s => s
  | k + 1, s => procPayload tx onrx k { onrx (s.exchange (tx s.idx)) with idx := s.idx + 1 }

/-- `Frame(cmd, n, txbyte, onrx)` (R77). -/
def procFrame (cmd : Byte) (n : Nat) (tx : Nat → Byte) (onrx : State → State) (s : State) : State :=
  procEnd (procPayload tx onrx n { (procBegin s).exchange cmd with idx := 0 })

/-- `SENDOP(op)` (R80). -/
def procSendop (op : Byte) (s : State) : State :=
  (procFrame op 0 (fun _ => s.dummyTx) id (s.loseRet.latchOp op)).reply .nothing

/-- `WRREG(addr, val)` (R82). -/
def procWrreg (addr val : Byte) (s : State) : State :=
  (procFrame (0x80 ||| (addr &&& 0x1F)) 1 (fun _ => val) id ((s.loseRet.latchAddr addr).latchVal val)).reply .nothing

/-- The frame of `RDREG(addr)` (R83); the byte read is in `RDATA`. -/
def procRdregFrame (addr : Byte) (s : State) : State :=
  procFrame (0x40 ||| (addr &&& 0x1F)) 1 (fun _ => s.dummyTx) id (s.loseRet.latchAddr addr)

/-- `RDREG(addr)` (R83). -/
def procRdreg (addr : Byte) (s : State) : State :=
  (procRdregFrame addr s).reply (.byte (procRdregFrame addr s).rdata)

/-- `WRCFG(cfg)` (R90). -/
def procWrcfg (cfg : Cfg) (s : State) : State :=
  (procFrame 0x80 17 (cfgByte cfg) id (s.loseRet.latchCfg cfg)).reply .nothing

/-- The frame of `VFYCFG` (R93): `present <- true`, then all 17 comparisons with the `CFG` latch. -/
def procVerify (s : State) : State := procFrame 0x40 17 (fun _ => s.dummyTx) State.verifyByte s.verifyStart

/-- `VFYCFG(cfg)` (R93). -/
def procVfycfg (cfg : Cfg) (s : State) : State :=
  (procVerify (s.loseRet.latchCfg cfg)).reply (.bool (procVerify (s.loseRet.latchCfg cfg)).present)

/-- The four exchanges of `RDRES(base)` (R100) up to `EndFrame`, with the accumulator assembled from the three bytes
received as R100 writes it. -/
def procRdresFrame (base : Byte) (s : State) : State :=
  let s0 := (procBegin ((s.loseRet.latchBase base).clearAcc)).exchange (0x60 ||| base)
  let s1 := s0.exchange s.dummyTx
  let s2 := s1.exchange s.dummyTx
  let s3 := s2.exchange s.dummyTx
  { procEnd s3 with idx := 3, acc := assemble s1.rdata s2.rdata s3.rdata }

/-- `RDRES(base)` (R100). -/
def procRdres (base : Byte) (s : State) : State :=
  (procRdresFrame base s).reply (.result (procRdresFrame base s).acc)

/-- Steps 1 to 3 of `Configure(M, P)` (R107): POWER_RESET, its settle, one bulk write. -/
def procOpening (m : Channels) (s : State) : State :=
  let s0 := { s.loseRet with wsel := m, cfg := s.preset m, op := 0x30 }
  let s1 := procFrame 0x30 0 (fun _ => s.dummyTx) id s0
  let s2 := s1.emit (.wait Config.tSettleReset)
  { procFrame 0x80 17 (cfgByte (s.preset m)) id s2 with wstep := .wVerify }

/-- Steps 5 to 9 of `Configure` (R107): one verify round, and after a failed one the record and the backoff. -/
def procRound (s : State) : State :=
  if (procVerify s).present then { procVerify s with wstep := .wInit }
  else { ((procVerify s).report .retryRound).emit (.wait Config.tBackoff) with wstep := .wVerify }

/-- Steps 10 to 13 of `Configure` (R107): INIT_START, its settle, `mode <- M`, `return true`. -/
def procClosing (s : State) : State :=
  let s1 := procFrame 0x18 0 (fun _ => s.dummyTx) id (s.latchOp 0x18)
  let s2 := s1.emit (.wait Config.tSettleInit)
  ({ s2 with mode := s.wsel.toMode, wstep := .wNone } : State).reply (.bool true)

/-- `n` verify rounds, one after another (R107 steps 4 to 9). -/
def procRounds : Nat → State → State
  | 0, s => s
  | n + 1, s => procRounds n (procRound s)

end Sys2Proof.Machine
end

