-- ==== Sys2Proof/Safety.lean ====
section
/-!
DEFINITION. What the statements speak of: runs, counts over the traces, the frame grammar of the bus trace
(40_transaction_framing.md R76), and the invariant of the sequencer position (10_state.md R13 to R16).
-/

namespace Sys2Proof.Safety

open Sys2Proof.Machine

/-- `k` steps of the machine, stopping at the first fault or refusal. -/
def after : Nat → State → Host.Outcome State Fault Refusal
  | 0, s => .next s
  | k + 1, s =>
    match step s with
    | .next t => after k t
    | .fault f => .fault f
    | .refused r => .refused r

/-- An idle engine with nothing more from the host: where a statement about one operation starts. -/
def Quiet (s : State) : Prop := s.phase = .idle ∧ s.wstep = .wNone ∧ s.inputs = []

/-! ### Counts over the traces (R114, V50) -/

def isXfer : BusEvent → Bool
  | .xfer _ _ => true
  | .csAssert | .sessionOpen _ _ _ | .sessionClose | .csDeassert | .wait _ => false

def xferCount (bus : List BusEvent) : Nat := (bus.filter isXfer).length
def frameCount (bus : List BusEvent) : Nat := bus.count .csAssert
def waitCount (d : Nat) (bus : List BusEvent) : Nat := bus.count (.wait d)
def retryCount (diag : List DiagRecord) : Nat := diag.count .retryRound

/-- The events of one frame (R70), `cmd` and the payload each with the byte received. -/
def frameEvents (exchanges : List (Byte × Byte)) : List BusEvent :=
  [.csAssert, openEvent] ++ exchanges.map (fun p => .xfer p.1 p.2) ++ [.sessionClose, .csDeassert]

/-- The bits the engine sends in a piece of the bus trace: each exchange inside a session sends its byte in the order
that session was opened with (R33, R71). The first argument is the order of the session open before it, if one is. -/
def bitsSent : Option BitOrder → List BusEvent → List Bool
  | _, [] => []
  | _, .sessionOpen _ order _ :: rest => bitsSent (some order) rest
  | _, .sessionClose :: rest => bitsSent none rest
  | some order, .xfer tx _ :: rest => wireBits order tx ++ bitsSent (some order) rest
  | none, .xfer _ _ :: rest => bitsSent none rest
  | order, .csAssert :: rest => bitsSent order rest
  | order, .csDeassert :: rest => bitsSent order rest
  | order, .wait _ :: rest => bitsSent order rest

/-- The bits of a byte, bit 7 first. -/
def bitsFromTop (b : Byte) : List Bool :=
  [b.getLsbD 7, b.getLsbD 6, b.getLsbD 5, b.getLsbD 4, b.getLsbD 3, b.getLsbD 2, b.getLsbD 1, b.getLsbD 0]

/-- The mismatch records of one verify (R94): for every index that differs and no other, ascending. -/
def mismatches (expected actual : List Byte) : List DiagRecord :=
  ((List.range 17).filter (fun i => expected.getD i 0 != actual.getD i 0)).map
    (fun i => .mismatch i (expected.getD i 0) (actual.getD i 0))

/-! ### The grammar of the bus trace (R76) -/

/-- Where in the grammar a bus trace stands. -/
inductive BusPos where
  | outside
  | selected
  | inSession (xfers : Nat)
  | sessionOver (xfers : Nat)
deriving DecidableEq, Repr

/-- R76 (a) to (e): what may follow what. A chip-select window closes after 1, 2, 4 or 18 exchanges, its session has
the parameters of R71, and a wait lies outside every window. -/
def busNext : BusPos → BusEvent → Option BusPos
  | .outside, .csAssert => some .selected
  | .outside, .wait _ => some .outside
  | .selected, e => if e = openEvent then some (.inSession 0) else none
  | .inSession n, .xfer _ _ => some (.inSession (n + 1))
  | .inSession n, .sessionClose => some (.sessionOver n)
  | .sessionOver n, .csDeassert => if n = 1 ∨ n = 2 ∨ n = 4 ∨ n = 18 then some .outside else none
  | _, _ => none

/-- The grammar over a whole trace, from outside every window. -/
def busRun (bus : List BusEvent) : Option BusPos := bus.foldl (fun p e => p.bind (busNext · e)) (some .outside)

/-- The place in the grammar that the sequencer position stands for. -/
def busPosOf (s : State) : BusPos :=
  match s.phase with
  | .idle | .waiting => .outside
  | .fCs => .selected
  | .fCmd => .inSession 0
  | .fData => .inSession (s.idx + 1)
  | .fClose => .sessionOver (s.idx + 1)

/-- The bus trace so far obeys R76 and stands where the position says. -/
def TraceFits (s : State) : Prop := busRun s.bus = some (busPosOf s)

/-! ### The invariant of the position -/

/-- The phases of a frame (R15). -/
def inFrame : Phase → Bool
  | .fCs | .fCmd | .fData | .fClose => true
  | .idle | .waiting => false

/-- R15, R16: the lines follow the phase. -/
def LinesFollowPhase (s : State) : Prop :=
  (s.cs = .low ↔ inFrame s.phase = true) ∧
  (s.session = .opened ↔ (s.phase = .fCmd ∨ s.phase = .fData))

/-- R13, R14, R74: `cur` is the primitive of the frame in progress and no other time, `idx` is within its payload, and
inside a workflow the frame is the one the step runs (R111). -/
def FrameInTable (s : State) : Prop :=
  match s.cur with
  | none => inFrame s.phase = false
  | some p =>
    inFrame s.phase = true ∧
    (s.phase = .fData → s.idx ≤ p.payloadLen) ∧
    (s.phase = .fClose → s.idx = p.payloadLen) ∧
    (s.wstep = .wNone ∨ s.wstep.prim = some p)

/-- R111, R130: the engine waits only in a step that has a wait. -/
def WaitInTable (s : State) : Prop := s.phase = .waiting → s.wstep.wait.isSome = true

/-- R106, R107, R108, R111: what a running workflow holds: its preset in `CFG`, the opcode of its frame in `OP`, and
`present` as the branch it took says. -/
def WorkflowHolds (s : State) : Prop :=
  (s.wstep ≠ .wNone → s.cfg = s.preset s.wsel) ∧
  (s.wstep = .wReset → s.op = 0x30) ∧
  (s.wstep = .wInit → s.phase ≠ .idle → s.op = 0x18) ∧
  (s.wstep = .wInit ∨ s.wstep = .wInitSettle ∨ s.wstep = .wFinish → s.present = true) ∧
  (s.wstep = .wRetryDiag ∨ s.wstep = .wBackoff → s.present = false)

/-- The invariant every step keeps. -/
def EngineInv (s : State) : Prop := LinesFollowPhase s ∧ FrameInTable s ∧ WaitInTable s ∧ WorkflowHolds s

/-- The reference remote's memories are in their canonical form; the other remotes have none. -/
def RemoteWf (s : State) : Prop :=
  match s.remote with
  | .reference r => r.reg.wf = true ∧ r.res.wf = true
  | .oracle _ => True
  | .silent _ => True

/-! ### What an instruction leaves alone -/

/-- The configuration space of the reference remote; the other remotes have no memory. -/
def regOf : Remote → Memory
  | .reference r => r.reg
  | .oracle _ => []
  | .silent _ => []

/-- The result space of the reference remote. -/
def resOf : Remote → Memory
  | .reference r => r.res
  | .oracle _ => []
  | .silent _ => []

/-- Every byte of the remote's memories reads as before. -/
def SameMemory (s t : State) : Prop :=
  ∀ a, (regOf t.remote).read a = (regOf s.remote).read a ∧ (resOf t.remote).read a = (resOf s.remote).read a

/-- `mode`, the read-only tables, the parameter, the records and the answers given so far, and the host's remaining
events are as before. -/
def SameRecords (s t : State) : Prop :=
  t.mode = s.mode ∧ t.presetSingle = s.presetSingle ∧ t.presetDual = s.presetDual ∧ t.dummyTx = s.dummyTx ∧
  t.diag = s.diag ∧ t.rets = s.rets ∧ t.inputs = s.inputs

/-- The registers no Issue or frame start writes: `idx`, `RDATA`, `session` and the workflow's latch. -/
def SameEngine (s t : State) : Prop :=
  t.idx = s.idx ∧ t.rdata = s.rdata ∧ t.session = s.session ∧ t.wsel = s.wsel ∧ t.wstep = s.wstep

/-- The operand latches. -/
def SameOp (s t : State) : Prop := t.op = s.op
def SameAddr (s t : State) : Prop := t.addr = s.addr
def SameVal (s t : State) : Prop := t.val = s.val
def SameBase (s t : State) : Prop := t.base = s.base
def SameCfg (s t : State) : Prop := t.cfg = s.cfg

end Sys2Proof.Safety
end

