-- ==== Sys2Proof/Certificates/Slice0/Obligations.lean ====
section
/-!
DEFINITION. The statements for the provers, from the numbered rules of spec/.
-/

open Sys2Proof Sys2Proof.Machine Sys2Proof.Safety

/-! ### Command bytes and words -/

/-- R53: the register command bytes; the address is masked to 5 bits, so `ADDR` and `ADDR + 32` give one byte. -/
def Obligations.RegisterAddressIsMasked : Prop :=
  ∀ a : Byte,
    encWriteReg a = 0x80 ||| (a &&& 0x1F) ∧ encWriteReg a = 0b100#3 ++ a.extractLsb' 0 5 ∧
    encReadReg a = 0x40 ||| (a &&& 0x1F) ∧ encReadReg a = 0b010#3 ++ a.extractLsb' 0 5 ∧
    encWriteReg (a + 32) = encWriteReg a ∧ encReadReg (a + 32) = encReadReg a

/-- R55: the result base is not masked; only its bit 7 reaches the selector, which it turns into no defined pattern;
the four slots' bytes. -/
def Obligations.ResultBaseIsNotMasked : Prop :=
  (∀ b : Byte,
    encReadResult b = 0x60 ||| b ∧
    encReadResult b = b.extractLsb' 7 1 ++ 0b11#2 ++ b.extractLsb' 0 5 ∧
    ((encReadResult b).extractLsb' 5 3 = if b.getLsbD 7 then 0b111#3 else 0b011#3) ∧
    (b.getLsbD 7 = true → decodeCmd (encReadResult b) = .unknown (encReadResult b))) ∧
  encReadResult Config.slotRefidA = 0x68 ∧ encReadResult Config.slotTstopA = 0x6B ∧
  encReadResult Config.slotRefidB = 0x74 ∧ encReadResult Config.slotTstopB = 0x77

/-- R56: the classifier of command bytes, range by range, on all 256 bytes, and on what the encoders produce. -/
def Obligations.EveryCommandByteIsClassified : Prop :=
  (∀ c : Byte,
    (decodeCmd c = .powerReset ↔ c = 0x30) ∧
    (decodeCmd c = .initStart ↔ c = 0x18) ∧
    (∀ a, decodeCmd c = .write a ↔ 0x80 ≤ c.toNat ∧ c.toNat ≤ 0x9F ∧ a = c.extractLsb' 0 5) ∧
    (∀ a, decodeCmd c = .read a ↔ 0x40 ≤ c.toNat ∧ c.toNat ≤ 0x5F ∧ a = c.extractLsb' 0 5) ∧
    (∀ a, decodeCmd c = .readResult a ↔ 0x60 ≤ c.toNat ∧ c.toNat ≤ 0x7F ∧ a = c.extractLsb' 0 5) ∧
    (decodeCmd c = .unknown c ↔
      c ≠ 0x30 ∧ c ≠ 0x18 ∧ (c.toNat < 0x40 ∨ 0x9F < c.toNat))) ∧
  (∀ a : Byte, decodeCmd (encWriteReg a) = .write (a.extractLsb' 0 5)) ∧
  (∀ a : Byte, decodeCmd (encReadReg a) = .read (a.extractLsb' 0 5)) ∧
  (∀ b : Byte, b.getLsbD 7 = false → decodeCmd (encReadResult b) = .readResult (b.extractLsb' 0 5)) ∧
  (∀ b : Byte, b.getLsbD 7 = true → decodeCmd (encReadResult b) = .unknown (encReadResult b))

/-- R63: the round-trip laws. -/
def Obligations.CommandByteRoundTrips : Prop :=
  (∀ a : Byte, encWriteReg a = encWriteReg (a &&& 0x1F)) ∧
  (∀ a : Byte, (encWriteReg a).extractLsb' 5 3 = 0b100#3) ∧
  (∀ a : Byte, (encReadReg a).extractLsb' 5 3 = 0b010#3) ∧
  encWriteReg 0 = 0x80 ∧ encWriteConfig = 0x80 ∧ encReadReg 0 = 0x40 ∧ encReadConfig = 0x40 ∧
  (∀ b : Byte, encReadResult b = encReadResult (b &&& 0x9F)) ∧
  (∀ b : Byte, (encReadResult b).extractLsb' 5 2 = 0b11#2) ∧
  (∀ b : Byte, b.toNat < 32 → decodeCmd (encReadResult b) = .readResult (b.extractLsb' 0 5)) ∧
  decodeCmd 0x30 = .powerReset ∧ decodeCmd 0x18 = .initStart ∧
  (∀ (c : Byte) (k l : CmdKind), decodeCmd c = k → decodeCmd c = l → k = l)

/-- R57 (its count, V5): 158 of the 256 command bytes are `Unknown`, in four runs of 24, 23, 15 and 96. -/
def Obligations.UnknownCommandBytesCounted : Prop :=
  let unknownIn := fun (lo hi : Nat) =>
    ((List.range 256).filter (fun n =>
      lo ≤ n ∧ n ≤ hi ∧ decodeCmd (BitVec.ofNat 8 n) = .unknown (BitVec.ofNat 8 n))).length
  unknownIn 0 255 = 158 ∧ unknownIn 0x00 0x17 = 24 ∧ unknownIn 0x19 0x2F = 23 ∧ unknownIn 0x31 0x3F = 15 ∧
    unknownIn 0xA0 0xFF = 96

/-- R59: one command byte, two frame kinds; the payload count tells them apart, and any other count is no frame of
the engine. -/
def Obligations.PayloadCountGivesFrameKind : Prop :=
  ∀ payload : List Byte,
    (decode (.wire (encWriteConfig :: payload)) =
      if payload.length = 1 then .ok (.writeReg 0 (payload.getD 0 0))
      else if payload.length = 17 then .ok (.writeConfig payload)
      else .rejected (.payloadCount encWriteConfig payload.length)) ∧
    (decode (.wire (encReadConfig :: payload)) =
      if payload.length = 1 then .ok (.readReg 0)
      else if payload.length = 17 then .ok .readConfig
      else .rejected (.payloadCount encReadConfig payload.length))

/-- Every well-formed instruction, with every operand value its encoding admits and every `DUMMY_TX`, is what the
decoder reads from its word (R51, R60). -/
def Obligations.DecodeOfEncodeIsTheInstruction : Prop :=
  ∀ (dummy : Byte) (i : Instr), i.wellFormed = true → decode (encode dummy i) = .ok i

/-- R60: the host codes that name no operation are refused by name, whatever comes with them, and every other code
names its operation. -/
def Obligations.HostCodesAreTheTable : Prop :=
  ∀ (h : Hcmd) (os : List Byte),
    ((h = 0 ∨ 11 ≤ h.toNat) → decode (.host h os) = .rejected (.unknownHostCode h)) ∧
    (∀ i, decode (.host h os) = .ok i → ∀ dummy, encode dummy i = .host h os)

/-- Words written out bit by bit from R51, R60 and the programs of 95_test_vectors.md decode to what they stand for. -/
def Obligations.SampleWordsDecode : Prop :=
  decode (.wire [0b00110000]) = .ok .powerReset ∧
  decode (.wire [0b00011000]) = .ok .initStart ∧
  decode (.wire [0b10000101, 0xA7]) = .ok (.writeReg 5 0xA7) ∧
  decode (.wire [0b01001010, 0x00]) = .ok (.readReg 10) ∧
  decode (.wire [0b01101011, 0x00, 0x00, 0x00]) = .ok (.readResult 11) ∧
  decode (.host 0b0001 [0x30]) = .ok (.sendop 0x30) ∧
  decode (.host 0b0010 [0x05, 0xA5]) = .ok (.wrreg 0x05 0xA5) ∧
  decode (.host 0b0110 [0x28]) = .ok (.rdres 0x28) ∧
  decode (.host 0b1000 []) = .ok .cfgdual ∧
  decode (.host 0b1010 []) = .ok .isdual

/-- R71, R33 (bits within a byte): every session any step opens has the three parameters of R71, 50 MHz, most
significant bit first, clock idle low with sampling on the leading edge; so the bits a frame sends are those of its bytes,
bit 7 first: `SENDOP 0x30` sends 0,0,1,1,0,0,0,0, and WRREG its command byte and then its data byte. -/
def Obligations.BytesGoMostSignificantBitFirst : Prop :=
  openEvent = .sessionOpen 50000000 .msbFirst ⟨.low, .leading⟩ ∧
  (∀ (s t : State) (rate : Nat) (order : BitOrder) (mode : SpiMode),
    step s = .next t → t.bus = s.bus ++ [.sessionOpen rate order mode] →
      rate = 50000000 ∧ order = .msbFirst ∧ mode = ⟨.low, .leading⟩) ∧
  (∀ exchanges : List (Byte × Byte),
    bitsSent none (frameEvents exchanges) = exchanges.flatMap (fun p => bitsFromTop p.1)) ∧
  bitsFromTop 0x30 = [false, false, true, true, false, false, false, false] ∧
  (∀ (s : State) (op addr val : Byte), Quiet s →
    (∃ u t sent, exec (.sendop op) s = .next u ∧ after 4 u = .next t ∧ t.bus = s.bus ++ sent ∧
      bitsSent none sent = bitsFromTop op) ∧
    (∃ u t sent, exec (.wrreg addr val) s = .next u ∧ after 5 u = .next t ∧ t.bus = s.bus ++ sent ∧
      bitsSent none sent = bitsFromTop (0x80 ||| (addr &&& 0x1F)) ++ bitsFromTop val))

/-! ### Steps -/

/-- R60, R75: an idle engine that is handed an instruction's word runs that instruction; the step has taken the
event from the host's list and does nothing else around it. Two parts are the model's choice, not the spec's: that the
port also takes a wire row's word (log entry 2: the spec's host port has no such word), and that host events come off a
list in State, one a step (log entry 4). -/
def Obligations.StepRunsTheDecodedInstruction : Prop :=
  ∀ (s : State) (w : PortWord) (rest : List HostEvent) (i : Instr),
    s.phase = .idle → s.wstep = .wNone → s.inputs = .issue w :: rest → decode w = .ok i →
      step s = exec i { s with inputs := rest }

/-- The word of a table row, placed by `withFetchWord` in any state, is what the next step runs (log entry 3). -/
def Obligations.FetchWordIsRunNext : Prop :=
  ∀ (s : State) (nbits w : Nat) (i : Instr),
    decodeTableWord nbits w = some i →
      step (s.withFetchWord nbits w) = exec i { s.atRest with inputs := s.inputs }

/-- R111: between two frames of a workflow the step runs the wire frame its `wstep` calls for; the host may be
silent or quiet. -/
def Obligations.WorkflowStepRunsItsFrame : Prop :=
  ∀ (s : State), s.inputs = [] → s.phase = .idle →
    (s.wstep = .wReset → step s = exec .powerReset s) ∧
    (s.wstep = .wWrite → step s = exec (.writeConfig s.cfg.toList) s) ∧
    (s.wstep = .wVerify → step s = exec .readConfig s) ∧
    (s.wstep = .wInit → step s = exec .initStart s) ∧
    step { s with inputs := [.quiet] } = step s

/-- R143: with nothing issued an idle engine does nothing. -/
def Obligations.IdleEngineDoesNothing : Prop := ∀ s : State, Quiet s → step s = .next s

/-- R75, R126 X9: whatever is presented to a busy engine is turned away and leaves every other part of the state as if
it had not been presented; the host operations themselves change nothing in a busy engine. -/
def Obligations.BusyEngineTurnsIssueAway : Prop :=
  ∀ s : State, (s.phase ≠ .idle ∨ s.wstep ≠ .wNone) →
    (∀ w rest, s.inputs = .issue w :: rest → step s = .next { s with inputs := rest }) ∧
    (∀ op, exec (.sendop op) s = .next s) ∧
    (∀ addr val, exec (.wrreg addr val) s = .next s) ∧
    (∀ addr, exec (.rdreg addr) s = .next s) ∧
    (∀ cfg, exec (.wrcfg cfg) s = .next s) ∧
    (∀ cfg, exec (.vfycfg cfg) s = .next s) ∧
    (∀ base, exec (.rdres base) s = .next s) ∧
    exec .cfgsingle s = .next s ∧ exec .cfgdual s = .next s ∧
    exec .ispresent s = .next s ∧ exec .isdual s = .next s

/-- R60, R126 X10: an undefined host code leaves an idle engine as it is. -/
def Obligations.UndefinedHostCodeIsTurnedAway : Prop :=
  ∀ (s : State) (h : Hcmd) (os : List Byte) (rest : List HostEvent),
    (h = 0 ∨ 11 ≤ h.toNat) → s.inputs = .issue (.host h os) :: rest →
      step s = .next { s with inputs := rest }

/-- R23, R140: what reset leaves, in every element to which the spec gives a reset value. -/
def Obligations.ResetLeaves : Prop :=
  State.reset.cs = .high ∧ State.reset.session = .closed ∧ State.reset.phase = .idle ∧
  State.reset.wstep = .wNone ∧ State.reset.cur = none ∧ State.reset.present = false ∧
  State.reset.mode = .unset ∧ State.reset.bus = [] ∧ State.reset.diag = [] ∧
  State.reset.presetSingle = Config.presetSingle ∧ State.reset.presetDual = Config.presetDual

/-- R141, R142: reset at any moment, in a frame or in a hung workflow too: the operation is abandoned without a `Ret`
and without a bus event, the position and the flags are those of R140, and the remote is not touched. -/
def Obligations.ResetAbandonsTheOperation : Prop :=
  ∀ (s : State) (rest : List HostEvent), s.inputs = .reset :: rest →
    ∃ t, step s = .next t ∧ t.cs = .high ∧ t.session = .closed ∧ t.phase = .idle ∧ t.wstep = .wNone ∧
      t.cur = none ∧ t.present = false ∧ t.mode = .unset ∧ t.bus = [] ∧ t.diag = [] ∧ t.rets = [] ∧
      t.remote = s.remote ∧ t.presetSingle = s.presetSingle ∧ t.presetDual = s.presetDual ∧
      t.dummyTx = s.dummyTx ∧ t.inputs = rest

/-! ### Whole operations: each runs to the end of its procedure, for every remote

The number of steps a run takes, here and below, is the model's: one step is one row of R74 or R111 (log entry 1). -/

/-- R80: SENDOP is host code `0x1` with its byte; in an idle engine it completes and is its procedure. -/
def Obligations.SendopRunsItsProcedure : Prop :=
  ∀ (s : State) (op : Byte), Quiet s →
    decode (.host 0x1 [op]) = .ok (.sendop op) ∧
    ∃ u, exec (.sendop op) s = .next u ∧ after 4 u = .next (procSendop op s)

/-- R82: WRREG is host code `0x2` with its two bytes; in an idle engine it completes and is its procedure. -/
def Obligations.WrregRunsItsProcedure : Prop :=
  ∀ (s : State) (addr val : Byte), Quiet s →
    decode (.host 0x2 [addr, val]) = .ok (.wrreg addr val) ∧
    ∃ u, exec (.wrreg addr val) s = .next u ∧ after 5 u = .next (procWrreg addr val s)

/-- R83: RDREG is host code `0x3` with its byte; in an idle engine it completes and is its procedure. -/
def Obligations.RdregRunsItsProcedure : Prop :=
  ∀ (s : State) (addr : Byte), Quiet s →
    decode (.host 0x3 [addr]) = .ok (.rdreg addr) ∧
    ∃ u, exec (.rdreg addr) s = .next u ∧ after 5 u = .next (procRdreg addr s)

/-- R90: WRCFG is host code `0x4` with its 17 bytes; in an idle engine it completes and is its procedure. -/
def Obligations.WrcfgRunsItsProcedure : Prop :=
  ∀ (s : State) (cfg : Cfg), Quiet s →
    decode (.host 0x4 cfg.toList) = .ok (.wrcfg cfg.toList) ∧
    ∃ u, exec (.wrcfg cfg.toList) s = .next u ∧ after 21 u = .next (procWrcfg cfg s)

/-- R93: VFYCFG is host code `0x5` with its 17 bytes; in an idle engine it completes and is its procedure, whatever
is received. -/
def Obligations.VfycfgRunsItsProcedure : Prop :=
  ∀ (s : State) (cfg : Cfg), Quiet s →
    decode (.host 0x5 cfg.toList) = .ok (.vfycfg cfg.toList) ∧
    ∃ u, exec (.vfycfg cfg.toList) s = .next u ∧ after 21 u = .next (procVfycfg cfg s)

/-- R100, R101: RDRES is host code `0x6` with its byte; in an idle engine it completes and is its procedure; the
byte-by-byte accumulator gives what R100 assembles. -/
def Obligations.RdresRunsItsProcedure : Prop :=
  ∀ (s : State) (base : Byte), Quiet s →
    decode (.host 0x6 [base]) = .ok (.rdres base) ∧
    ∃ u, exec (.rdres base) s = .next u ∧ after 7 u = .next (procRdres base s)

/-- R120: ISPRESENT is host code `0x9`; an idle engine answers `present` at once and writes `RET` only; a busy engine
does not accept it. -/
def Obligations.IspresentAnswersAtOnce : Prop :=
  decode (.host 0x9 []) = .ok .ispresent ∧
  (∀ s : State, s.phase = .idle → s.wstep = .wNone →
    exec .ispresent s =
      .next { s with ret := if s.present then 1 else 0, rets := s.rets ++ [.bool s.present] }) ∧
  (∀ s : State, s.busy = true → exec .ispresent s = .next s)

/-- R121: ISDUAL is host code `0xA`; an idle engine answers whether `mode` is Dual at once and writes `RET` only; a busy
engine does not accept it. -/
def Obligations.IsdualAnswersAtOnce : Prop :=
  decode (.host 0xA []) = .ok .isdual ∧
  (∀ s : State, s.phase = .idle → s.wstep = .wNone →
    exec .isdual s =
      .next { s with ret := if s.mode = .dual then 1 else 0, rets := s.rets ++ [.bool (decide (s.mode = .dual))] }) ∧
  (∀ s : State, s.busy = true → exec .isdual s = .next s)

/-- R71, R81 to R84, R90, R93, R100: each of the seven wire frames, begun in an idle engine, runs to the end of the
host operation that issues it. -/
def Obligations.WireFramesRunTheirOperation : Prop :=
  ∀ s : State, Quiet s →
    (∃ u, exec .powerReset s = .next u ∧ after 4 u = .next (procSendop 0x30 s)) ∧
    (∃ u, exec .initStart s = .next u ∧ after 4 u = .next (procSendop 0x18 s)) ∧
    (∀ adr val, ∃ u, exec (.writeReg adr val) s = .next u ∧
      after 5 u = .next (procWrreg (adr.setWidth 8) val s)) ∧
    (∀ adr, ∃ u, exec (.readReg adr) s = .next u ∧ after 5 u = .next (procRdreg (adr.setWidth 8) s)) ∧
    (∀ cfg : Cfg, ∃ u, exec (.writeConfig cfg.toList) s = .next u ∧ after 21 u = .next (procWrcfg cfg s)) ∧
    (∃ u, exec .readConfig s = .next u ∧ after 21 u = .next (procVfycfg s.cfg s)) ∧
    (∀ adr, ∃ u, exec (.readResult adr) s = .next u ∧ after 7 u = .next (procRdres (adr.setWidth 8) s))

/-- The `issued_by` column of the opcode table: in an idle engine a wire row and the host operation that issues it are
the same (log entry 2). -/
def Obligations.WireRowIsItsHostOperation : Prop :=
  ∀ s : State, s.phase = .idle → s.wstep = .wNone →
    exec .powerReset s = exec (.sendop 0x30) s ∧
    exec .initStart s = exec (.sendop 0x18) s ∧
    (∀ adr val, exec (.writeReg adr val) s = exec (.wrreg (adr.setWidth 8) val) s) ∧
    (∀ adr, exec (.readReg adr) s = exec (.rdreg (adr.setWidth 8)) s) ∧
    (∀ cfg, exec (.writeConfig cfg) s = exec (.wrcfg cfg) s) ∧
    exec .readConfig s = exec (.vfycfg s.cfg.toList) s ∧
    (∀ adr, exec (.readResult adr) s = exec (.rdres (adr.setWidth 8)) s)

/-! ### The workflows -/

/-- R107 steps 1 to 3, for both workflows (R114, R115; host codes `0x7` and `0x8`): the Issue is accepted and the engine
reaches the first verify by POWER_RESET, its settle and one bulk write of the preset. -/
def Obligations.WorkflowsOpenAsR107Says : Prop :=
  ∀ s : State, Quiet s →
    decode (.host 0x7 []) = .ok .cfgsingle ∧ decode (.host 0x8 []) = .ok .cfgdual ∧
    (∃ u, exec .cfgsingle s = .next u ∧ after 29 u = .next (procOpening .single s)) ∧
    (∃ u, exec .cfgdual s = .next u ∧ after 29 u = .next (procOpening .dual s))

/-- R107 steps 5 to 9, R108: one verify round from `W_VERIFY`; a failed one comes back there after its record and its
backoff, a successful one goes on to `W_INIT`. -/
def Obligations.VerifyRoundBranchesOnPresent : Prop :=
  ∀ s : State, s.phase = .idle → s.wstep = .wVerify → s.inputs = [] →
    (after (if (procVerify s).present then 22 else 25) s = .next (procRound s)) ∧
    ((procRound s).wstep = if (procVerify s).present then .wInit else .wVerify)

/-- R107 steps 10 to 13, R110: INIT_START, its settle, `mode <- M`, the return of `true`. -/
def Obligations.WorkflowClosesAsR107Says : Prop :=
  ∀ s : State, s.phase = .idle → s.wstep = .wInit → s.inputs = [] → after 8 s = .next (procClosing s)

/-- R107 whole, for both workflows and any number `r` of failed rounds: opening, `r + 1` verifies, closing. How many
steps those take is the model's (log entry 1). -/
def Obligations.WorkflowIsR107ForEveryRoundCount : Prop :=
  ∀ (m : Channels) (r : Nat) (s : State), Quiet s →
    (∀ j, j < r → (procVerify (procRounds j (procOpening m s))).present = false) →
    (procVerify (procRounds r (procOpening m s))).present = true →
      ∃ u, (match m with | .single => exec .cfgsingle s | .dual => exec .cfgdual s) = .next u ∧
        after (29 + 25 * r + 22 + 8) u = .next (procClosing (procRounds (r + 1) (procOpening m s)))

/-- R110, R114, R115, V50: an oracle that fails `r` rounds (any bytes that differ from the preset) and then answers the
preset: the workflow returns `true` with `present`, `mode` and the counts of R114. -/
def Obligations.WorkflowCountsForEveryRoundCount : Prop :=
  ∀ (m : Channels) (s : State) (a b : Byte) (w : List Byte) (failed : List (Byte × List Byte)) (c : Byte)
    (rest : List Byte), Quiet s → w.length = 18 →
    (∀ f ∈ failed, f.2.length = 17 ∧ f.2 ≠ (s.preset m).toList) →
    s.remote = .oracle ([a] ++ w ++ failed.flatMap (fun f => f.1 :: f.2) ++ ([b] ++ (s.preset m).toList) ++ [c] ++ rest) →
      ∃ u t k, (match m with | .single => exec .cfgsingle s | .dual => exec .cfgdual s) = .next u ∧
        after k u = .next t ∧ t.isIdle = true ∧ t.present = true ∧ t.mode = m.toMode ∧
        t.cs = .high ∧ t.session = .closed ∧ t.ret = 1 ∧ t.rets = s.rets ++ [.bool true] ∧
        t.remote = .oracle rest ∧
        frameCount t.bus = frameCount s.bus + 4 + failed.length ∧
        xferCount t.bus = xferCount s.bus + 38 + 18 * failed.length ∧
        waitCount Config.tSettleReset t.bus = waitCount Config.tSettleReset s.bus + 1 ∧
        waitCount Config.tBackoff t.bus = waitCount Config.tBackoff s.bus + failed.length ∧
        waitCount Config.tSettleInit t.bus = waitCount Config.tSettleInit s.bus + 1 ∧
        retryCount t.diag = retryCount s.diag + failed.length

/-- R114, R115, V51: the whole bus trace of a workflow whose first round succeeds, byte by byte. -/
def Obligations.WorkflowTraceWhenFirstRoundSucceeds : Prop :=
  ∀ (m : Channels) (s : State) (a b c : Byte) (w rest : List Byte), Quiet s → w.length = 18 →
    s.remote = .oracle ([a] ++ w ++ [b] ++ (s.preset m).toList ++ [c] ++ rest) →
      ∃ u t, (match m with | .single => exec .cfgsingle s | .dual => exec .cfgdual s) = .next u ∧
        after 59 u = .next t ∧
        t.bus = s.bus ++ frameEvents [(0x30, a)] ++ [.wait Config.tSettleReset] ++
          frameEvents ((0x80 :: (s.preset m).toList).zip w) ++
          frameEvents ((0x40, b) :: ((s.preset m).toList.map (fun r => (s.dummyTx, r)))) ++
          frameEvents [(0x18, c)] ++ [.wait Config.tSettleInit] ∧
        t.diag = s.diag ∧ t.present = true ∧ t.mode = m.toMode ∧ t.rets = s.rets ++ [.bool true] ∧
        t.isIdle = true

/-- R109: against any remote that never answers the preset in one round, whatever else it answers, a workflow never
ends: it makes one verify round after another (25 steps each, log entry 1), and after any number of steps the engine is
busy, no `Ret` has come, `mode` is what it was, and INIT_START has not been reached. No fault and no refusal: a hang. A
chip that answers one byte `z` for ever is such a remote while the preset is not 17 times `z` (R96 (a), program P4). -/
def Obligations.WorkflowHangsOnASilentChip : Prop :=
  (∀ (m : Channels) (s : State), Quiet s →
    (∀ j, (procVerify (procRounds j (procOpening m s))).present = false) →
      ∃ u, (match m with | .single => exec .cfgsingle s | .dual => exec .cfgdual s) = .next u ∧
        (∀ j, after (29 + 25 * j) u = .next (procRounds j (procOpening m s))) ∧
        ∀ k, ∃ t, after k u = .next t ∧ t.busy = true ∧ t.rets = s.rets ∧ t.mode = s.mode ∧
          t.wstep ≠ .wInit ∧ t.wstep ≠ .wInitSettle ∧ t.wstep ≠ .wFinish) ∧
  (∀ (m : Channels) (s : State) (z : Byte), s.remote = .silent z → (s.preset m).toList ≠ List.replicate 17 z →
    ∀ j, (procVerify (procRounds j (procOpening m s))).present = false)

/-- R107 with R44: under the reference remote each workflow returns after exactly one verify round, with the preset in
the remote's registers 0..16. -/
def Obligations.WorkflowSucceedsUnderReferenceRemote : Prop :=
  ∀ (m : Channels) (s : State) (r : RefTdc), Quiet s → s.remote = .reference r → r.reg.wf = true →
    ∃ u t, (match m with | .single => exec .cfgsingle s | .dual => exec .cfgdual s) = .next u ∧
      after 59 u = .next t ∧ t.isIdle = true ∧ t.present = true ∧ t.mode = m.toMode ∧ t.ret = 1 ∧
      t.diag = s.diag ∧
      (∀ i, i < 17 → (regOf t.remote).read i = cfgByte (s.preset m) i) ∧
      (∀ i, 17 ≤ i → (regOf t.remote).read i = r.reg.read i) ∧ resOf t.remote = r.res

/-! ### Results, on any bytes received -/

/-- R80, R82, R83: the events of the three short frames and what is returned, for any bytes received. -/
def Obligations.RegisterPrimitivesOnTheWire : Prop :=
  ∀ (s : State) (op addr val r0 r1 : Byte) (rest : List Byte), Quiet s →
    (s.remote = .oracle (r0 :: rest) →
      ∃ u t, exec (.sendop op) s = .next u ∧ after 4 u = .next t ∧ t.bus = s.bus ++ frameEvents [(op, r0)] ∧
        t.rets = s.rets ++ [.nothing] ∧ t.op = op ∧ t.isIdle = true ∧ t.cs = .high ∧ t.session = .closed) ∧
    (s.remote = .oracle (r0 :: r1 :: rest) →
      ∃ u t, exec (.wrreg addr val) s = .next u ∧ after 5 u = .next t ∧
        t.bus = s.bus ++ frameEvents [(0x80 ||| (addr &&& 0x1F), r0), (val, r1)] ∧
        t.rets = s.rets ++ [.nothing] ∧ t.addr = addr ∧ t.val = val ∧ t.isIdle = true ∧ t.cs = .high ∧
        t.session = .closed) ∧
    (s.remote = .oracle (r0 :: r1 :: rest) →
      ∃ u t, exec (.rdreg addr) s = .next u ∧ after 5 u = .next t ∧
        t.bus = s.bus ++ frameEvents [(0x40 ||| (addr &&& 0x1F), r0), (s.dummyTx, r1)] ∧
        t.rets = s.rets ++ [.byte r1] ∧ t.ret = r1.setWidth 32 ∧ t.rdata = r1 ∧ t.addr = addr ∧
        t.isIdle = true ∧ t.cs = .high ∧ t.session = .closed)

/-- R90: the 18 exchanges of a bulk write, in index order, for any bytes received. -/
def Obligations.BulkWriteOnTheWire : Prop :=
  ∀ (s : State) (cfg : Cfg) (rx rest : List Byte), Quiet s → rx.length = 18 → s.remote = .oracle (rx ++ rest) →
    ∃ u t, exec (.wrcfg cfg.toList) s = .next u ∧ after 21 u = .next t ∧
      t.bus = s.bus ++ frameEvents ((0x80 :: cfg.toList).zip rx) ∧ t.rets = s.rets ++ [.nothing] ∧
      t.cfg = cfg ∧ t.present = s.present ∧ t.mode = s.mode ∧ t.diag = s.diag ∧ t.isIdle = true

/-- R93, R94, R95: whatever 17 bytes are received, all are read; `present` ends true exactly when they all equal the
operand; one record per differing index, ascending; the result is `present`. -/
def Obligations.VerifyComparesAllSeventeen : Prop :=
  ∀ (s : State) (cfg : Cfg) (c : Byte) (rx rest : List Byte), Quiet s → rx.length = 17 →
    s.remote = .oracle (c :: rx ++ rest) →
    ∃ u t, exec (.vfycfg cfg.toList) s = .next u ∧ after 21 u = .next t ∧
      t.bus = s.bus ++ frameEvents ((0x40, c) :: rx.map (fun r => (s.dummyTx, r))) ∧
      t.present = decide (rx = cfg.toList) ∧ t.diag = s.diag ++ mismatches cfg.toList rx ∧
      t.ret = (if rx = cfg.toList then 1 else 0) ∧ t.rets = s.rets ++ [.bool (decide (rx = cfg.toList))] ∧
      t.mode = s.mode ∧ t.cfg = cfg ∧ t.isIdle = true ∧ t.cs = .high ∧ t.session = .closed

/-- R96 (a): against a chip that answers one byte `z`, a verify fails at exactly the indices where the operand is not
`z`, and succeeds if there is none. -/
def Obligations.VerifyOfASilentChip : Prop :=
  ∀ (s : State) (cfg : Cfg) (z : Byte), Quiet s → s.remote = .silent z →
    ∃ u t, exec (.vfycfg cfg.toList) s = .next u ∧ after 21 u = .next t ∧
      t.present = decide (cfg.toList = List.replicate 17 z) ∧
      t.diag = s.diag ++ mismatches cfg.toList (List.replicate 17 z)

/-- R100, R101, R102: for every base and any three bytes received: the four exchanges, and the value with the first
byte most significant, zero-extended. -/
def Obligations.ResultIsThreeBytesMostSignificantFirst : Prop :=
  ∀ (s : State) (base c b0 b1 b2 : Byte) (rest : List Byte), Quiet s →
    s.remote = .oracle (c :: b0 :: b1 :: b2 :: rest) →
    ∃ u t, exec (.rdres base) s = .next u ∧ after 7 u = .next t ∧
      t.bus = s.bus ++ frameEvents [(0x60 ||| base, c), (s.dummyTx, b0), (s.dummyTx, b1), (s.dummyTx, b2)] ∧
      t.acc = b0 ++ b1 ++ b2 ∧ t.ret = 0x00#8 ++ (b0 ++ b1 ++ b2 : U24) ∧
      t.rets = s.rets ++ [.result (b0 ++ b1 ++ b2)] ∧ t.base = base ∧
      t.present = s.present ∧ t.mode = s.mode ∧ t.isIdle = true

/-- R101: the two forms of the reassembler agree on all bytes, and no bit is lost; the first byte is the most
significant; every value results from some bytes; the value is zero-extended into `RET`. -/
def Obligations.ReassemblerFormsAgree : Prop :=
  (∀ v : U24, (∃ b0 b1 b2, assemble b0 b1 b2 = v) ∧ (RetVal.result v).word = some (0x00#8 ++ v)) ∧
  assemble 0x01 0x02 0x03 = 0x010203 ∧
  ∀ (s : State) (b0 b1 b2 : Byte),
    assemble b0 b1 b2 = (b0.setWidth 24 <<< 16) ||| (b1.setWidth 24 <<< 8) ||| b2.setWidth 24 ∧
    (({ ({ ({ s.clearAcc with rdata := b0 } : State).accumulate with rdata := b1 } : State).accumulate
        with rdata := b2 } : State).accumulate).acc = assemble b0 b1 b2 ∧
    (assemble b0 b1 b2).toNat = b0.toNat * 65536 + b1.toNat * 256 + b2.toNat

/-! ### The reference remote -/

/-- R97 (1): under a remote that stores what is written and returns what is stored, WRCFG P then VFYCFG P returns
`true` and leaves `present = true`, with no record. -/
def Obligations.WriteThenVerifyUnderReferenceRemote : Prop :=
  ∀ (s : State) (p : Cfg) (r : RefTdc), Quiet s → s.remote = .reference r → r.reg.wf = true →
    ∃ u t v w, exec (.wrcfg p.toList) s = .next u ∧ after 21 u = .next t ∧
      exec (.vfycfg p.toList) t = .next v ∧ after 21 v = .next w ∧
      w.present = true ∧ w.ret = 1 ∧ w.rets = s.rets ++ [.nothing, .bool true] ∧ w.diag = s.diag ∧
      xferCount w.bus = xferCount s.bus + 36 ∧ frameCount w.bus = frameCount s.bus + 2

/-- R32, R44: the bytes the two storing operations store: WRREG one register, `addr & 0x1F`; WRCFG registers 0..16;
every other byte of both spaces reads as before. -/
def Obligations.StoresReachTheirRegistersOnly : Prop :=
  ∀ (s : State) (r : RefTdc), Quiet s → s.remote = .reference r → r.reg.wf = true →
    (∀ addr val, ∃ u t, exec (.wrreg addr val) s = .next u ∧ after 5 u = .next t ∧
      (∀ x, (regOf t.remote).read x = if x = (addr &&& 0x1F).toNat then val else r.reg.read x) ∧
      (∀ x, (resOf t.remote).read x = r.res.read x)) ∧
    (∀ cfg : Cfg, ∃ u t, exec (.wrcfg cfg.toList) s = .next u ∧ after 21 u = .next t ∧
      (∀ x, (regOf t.remote).read x = if x < 17 then cfgByte cfg x else r.reg.read x) ∧
      (∀ x, (resOf t.remote).read x = r.res.read x))

/-- R44 with R83, R100: what the two reading operations read: RDREG register `addr & 0x1F`; RDRES three bytes of the
result space from `base mod 32`, the pointer wrapping, when bit 7 of the base is clear. -/
def Obligations.ReadsReturnTheRemotesBytes : Prop :=
  ∀ (s : State) (r : RefTdc), Quiet s → s.remote = .reference r →
    (∀ addr, ∃ u t, exec (.rdreg addr) s = .next u ∧ after 5 u = .next t ∧
      t.rets = s.rets ++ [.byte (r.reg.read (addr &&& 0x1F).toNat)] ∧ SameMemory s t) ∧
    (∀ base : Byte, base.getLsbD 7 = false → ∃ u t, exec (.rdres base) s = .next u ∧ after 7 u = .next t ∧
      t.rets = s.rets ++ [.result (assemble (r.res.read (base.toNat % 32)) (r.res.read ((base.toNat + 1) % 32))
        (r.res.read ((base.toNat + 2) % 32)))] ∧ SameMemory s t)

/-- R35, R44: no operation that moves no byte to the remote changes a byte of it, whatever its operand: SENDOP, RDREG,
VFYCFG and RDRES run to their ends, ISPRESENT and ISDUAL at once. -/
def Obligations.ReadingOperationsStoreNothing : Prop :=
  ∀ s : State, Quiet s →
    (∀ op, ∃ u t, exec (.sendop op) s = .next u ∧ after 4 u = .next t ∧ SameMemory s t) ∧
    (∀ addr, ∃ u t, exec (.rdreg addr) s = .next u ∧ after 5 u = .next t ∧ SameMemory s t) ∧
    (∀ cfg : Cfg, ∃ u t, exec (.vfycfg cfg.toList) s = .next u ∧ after 21 u = .next t ∧ SameMemory s t) ∧
    (∀ base, ∃ u t, exec (.rdres base) s = .next u ∧ after 7 u = .next t ∧ SameMemory s t) ∧
    (∃ t, exec .ispresent s = .next t ∧ SameMemory s t) ∧
    (∃ t, exec .isdual s = .next t ∧ SameMemory s t)

/-! ### Frames -/

/-- R24, R80 to R83, R90, R93, R100: the run of each primitive leaves `mode`, the read-only tables and every latch but
its own as they were, whatever the remote; the run of each but VFYCFG, which writes `present` and adds its records (R93,
R94), leaves `present` and the records too. -/
def Obligations.PrimitivesLeaveTheRestAlone : Prop :=
  ∀ s : State, Quiet s →
    (∀ op, ∃ u t, exec (.sendop op) s = .next u ∧ after 4 u = .next t ∧ t.present = s.present ∧ t.mode = s.mode ∧
      t.diag = s.diag ∧ t.presetSingle = s.presetSingle ∧ t.presetDual = s.presetDual ∧ t.acc = s.acc ∧
      t.addr = s.addr ∧ t.val = s.val ∧ t.base = s.base ∧ t.cfg = s.cfg) ∧
    (∀ addr val, ∃ u t, exec (.wrreg addr val) s = .next u ∧ after 5 u = .next t ∧ t.present = s.present ∧
      t.mode = s.mode ∧ t.diag = s.diag ∧ t.presetSingle = s.presetSingle ∧ t.presetDual = s.presetDual ∧
      t.acc = s.acc ∧ t.op = s.op ∧ t.base = s.base ∧ t.cfg = s.cfg) ∧
    (∀ addr, ∃ u t, exec (.rdreg addr) s = .next u ∧ after 5 u = .next t ∧ t.present = s.present ∧
      t.mode = s.mode ∧ t.diag = s.diag ∧ t.presetSingle = s.presetSingle ∧ t.presetDual = s.presetDual ∧
      t.acc = s.acc ∧ t.op = s.op ∧ t.val = s.val ∧ t.base = s.base ∧ t.cfg = s.cfg) ∧
    (∀ cfg : Cfg, ∃ u t, exec (.wrcfg cfg.toList) s = .next u ∧ after 21 u = .next t ∧ t.present = s.present ∧
      t.mode = s.mode ∧ t.diag = s.diag ∧ t.presetSingle = s.presetSingle ∧ t.presetDual = s.presetDual ∧
      t.acc = s.acc ∧ t.op = s.op ∧ t.addr = s.addr ∧ t.val = s.val ∧ t.base = s.base) ∧
    (∀ cfg : Cfg, ∃ u t, exec (.vfycfg cfg.toList) s = .next u ∧ after 21 u = .next t ∧
      t.mode = s.mode ∧ t.presetSingle = s.presetSingle ∧ t.presetDual = s.presetDual ∧
      t.acc = s.acc ∧ t.op = s.op ∧ t.addr = s.addr ∧ t.val = s.val ∧ t.base = s.base) ∧
    (∀ base, ∃ u t, exec (.rdres base) s = .next u ∧ after 7 u = .next t ∧ t.present = s.present ∧
      t.mode = s.mode ∧ t.diag = s.diag ∧ t.presetSingle = s.presetSingle ∧ t.presetDual = s.presetDual ∧
      t.op = s.op ∧ t.addr = s.addr ∧ t.val = s.val ∧ t.cfg = s.cfg)

/-- R17, R24, R71, R74: what `exec` of a host primitive itself leaves unchanged, in every state: nothing but its own
latches (and `present` for VFYCFG, `ACC` for RDRES), the chip-select line and the position may change, and no byte of
the remote does. -/
def Obligations.IssueFrame : Prop :=
  ∀ s t : State,
    (∀ op, exec (.sendop op) s = .next t → SameRecords s t ∧ SameEngine s t ∧ SameMemory s t ∧
      SameAddr s t ∧ SameVal s t ∧ SameBase s t ∧ SameCfg s t ∧ t.present = s.present ∧ t.acc = s.acc) ∧
    (∀ addr val, exec (.wrreg addr val) s = .next t → SameRecords s t ∧ SameEngine s t ∧ SameMemory s t ∧
      SameOp s t ∧ SameBase s t ∧ SameCfg s t ∧ t.present = s.present ∧ t.acc = s.acc) ∧
    (∀ addr, exec (.rdreg addr) s = .next t → SameRecords s t ∧ SameEngine s t ∧ SameMemory s t ∧
      SameOp s t ∧ SameVal s t ∧ SameBase s t ∧ SameCfg s t ∧ t.present = s.present ∧ t.acc = s.acc) ∧
    (∀ cfg, exec (.wrcfg cfg) s = .next t → SameRecords s t ∧ SameEngine s t ∧ SameMemory s t ∧
      SameOp s t ∧ SameAddr s t ∧ SameVal s t ∧ SameBase s t ∧ t.present = s.present ∧ t.acc = s.acc) ∧
    (∀ cfg, exec (.vfycfg cfg) s = .next t → SameRecords s t ∧ SameEngine s t ∧ SameMemory s t ∧
      SameOp s t ∧ SameAddr s t ∧ SameVal s t ∧ SameBase s t ∧ t.acc = s.acc) ∧
    (∀ base, exec (.rdres base) s = .next t → SameRecords s t ∧ SameEngine s t ∧ SameMemory s t ∧
      SameOp s t ∧ SameAddr s t ∧ SameVal s t ∧ SameCfg s t ∧ t.present = s.present)

/-- R106, R111, R120, R121: the same for the workflows, which put nothing on the bus when they are issued and leave
`present` and `mode` (R12), and for the accessors, which write `RET` and answer. -/
def Obligations.WorkflowAndAccessorFrame : Prop :=
  ∀ s t : State,
    (exec .cfgsingle s = .next t ∨ exec .cfgdual s = .next t →
      SameRecords s t ∧ t.present = s.present ∧ t.bus = s.bus ∧ t.cs = s.cs ∧ t.session = s.session ∧
      t.phase = s.phase ∧ t.cur = s.cur ∧ t.idx = s.idx ∧ t.rdata = s.rdata ∧ t.acc = s.acc ∧
      SameAddr s t ∧ SameVal s t ∧ SameBase s t ∧ t.remote = s.remote) ∧
    (exec .ispresent s = .next t ∨ exec .isdual s = .next t →
      ∃ ret rets, t = { s with ret := ret, rets := rets })

/-- R71, R111: the same for the wire frames, in an idle engine, between the frames of a workflow, and where they are
turned away. -/
def Obligations.WireFrameFrame : Prop :=
  ∀ s t : State,
    (exec .powerReset s = .next t ∨ exec .initStart s = .next t →
      SameRecords s t ∧ SameEngine s t ∧ SameMemory s t ∧
      SameAddr s t ∧ SameVal s t ∧ SameBase s t ∧ SameCfg s t ∧ t.present = s.present ∧ t.acc = s.acc) ∧
    (∀ adr val, exec (.writeReg adr val) s = .next t → SameRecords s t ∧ SameEngine s t ∧ SameMemory s t ∧
      SameOp s t ∧ SameBase s t ∧ SameCfg s t ∧ t.present = s.present ∧ t.acc = s.acc) ∧
    (∀ adr, exec (.readReg adr) s = .next t → SameRecords s t ∧ SameEngine s t ∧ SameMemory s t ∧
      SameOp s t ∧ SameVal s t ∧ SameBase s t ∧ SameCfg s t ∧ t.present = s.present ∧ t.acc = s.acc) ∧
    (∀ cfg, exec (.writeConfig cfg) s = .next t → SameRecords s t ∧ SameEngine s t ∧ SameMemory s t ∧
      SameOp s t ∧ SameAddr s t ∧ SameVal s t ∧ SameBase s t ∧ t.present = s.present ∧ t.acc = s.acc) ∧
    (exec .readConfig s = .next t → SameRecords s t ∧ SameEngine s t ∧ SameMemory s t ∧
      SameOp s t ∧ SameAddr s t ∧ SameVal s t ∧ SameBase s t ∧ SameCfg s t ∧ t.acc = s.acc) ∧
    (∀ adr, exec (.readResult adr) s = .next t → SameRecords s t ∧ SameEngine s t ∧ SameMemory s t ∧
      SameOp s t ∧ SameAddr s t ∧ SameVal s t ∧ SameCfg s t ∧ t.present = s.present)

/-! ### Invariants and rules of the whole machine -/

/-- R13 to R16, R74, R106, R108, R111: the position, the lines and what a workflow holds, kept by every step, whatever
the host presents and the remote answers. -/
def Obligations.StepKeepsThePosition : Prop := ∀ s t : State, EngineInv s → step s = .next t → EngineInv t

/-- Reset meets that invariant, and the two others below; the canonical form of the remote's memories is the model's
(log entry 20). -/
def Obligations.ResetMeetsTheInvariants : Prop :=
  EngineInv State.reset ∧ TraceFits State.reset ∧ RemoteWf State.reset

/-- R74, R125, R136: in a state that meets the invariant every step has a next state: no fault, no refusal, never
stuck. -/
def Obligations.EngineNeverStops : Prop := ∀ s : State, EngineInv s → ∃ t, step s = .next t

/-- R76 (a) to (e): every step keeps the bus trace within the grammar of frames and waits. -/
def Obligations.StepKeepsTheBusGrammar : Prop :=
  ∀ s t : State, EngineInv s → TraceFits s → step s = .next t → TraceFits t

/-- Every step keeps the reference remote's memories in their canonical form. The memories are those of R44; the form,
rising addresses and no entry equal to what an unlisted byte reads as, is the model's choice (log entry 20). -/
def Obligations.StepKeepsTheRemotesForm : Prop := ∀ s t : State, RemoteWf s → step s = .next t → RemoteWf t

/-- R11: `present` is written by reset and by a verify only: to `true` at its start, or to `false` by a byte received
that differs from `CFG[idx]`. -/
def Obligations.OnlyAVerifyWritesPresent : Prop :=
  ∀ s t : State, step s = .next t → t.present ≠ s.present →
    (∃ rest, s.inputs = .reset :: rest ∧ t.present = false) ∨
    (t.cur = some .vfycfg ∧ t.phase = .fCs ∧ t.present = true) ∨
    (s.cur = some .vfycfg ∧ s.phase = .fData ∧ t.rdata ≠ cfgByte s.cfg s.idx ∧ t.present = false)

/-- R12: `mode` is written by reset and by the last step of a workflow only, which writes the mode of that workflow. -/
def Obligations.OnlyAFinishedWorkflowWritesMode : Prop :=
  ∀ s t : State, step s = .next t → t.mode ≠ s.mode →
    (∃ rest, s.inputs = .reset :: rest ∧ t.mode = .unset) ∨
    (s.wstep = .wFinish ∧ s.phase = .idle ∧ t.wstep = .wNone ∧ t.mode = s.wsel.toMode)

/-- R20, R21: no step writes a preset or a parameter. -/
def Obligations.PresetsAreConstants : Prop :=
  ∀ s t : State, step s = .next t →
    t.presetSingle = s.presetSingle ∧ t.presetDual = s.presetDual ∧ t.dummyTx = s.dummyTx

/-- R13, R74: the position after a step depends on no byte received: two states that differ in what has been and will be
received, and in everything the engine makes of it, move to the same position, but for the branch out of `W_VERIFY`. -/
def Obligations.PositionIgnoresReceivedBytes : Prop :=
  ∀ (s t : State) (p : Bool) (rd : Byte) (ac : U24) (rt : U32) (bus : List BusEvent) (dg : List DiagRecord)
    (rets : List RetVal) (rem : Remote) (n : Nat), (s.wstep = .wVerify → s.phase ≠ .fClose) →
    step s = .next t →
      ∃ t', step { s with present := p, rdata := rd, acc := ac, ret := rt, bus := bus, diag := dg, rets := rets,
                          remote := rem, draws := n } = .next t' ∧
        t'.wstep = t.wstep ∧ t'.cur = t.cur ∧ t'.phase = t.phase ∧ t'.idx = t.idx ∧
        t'.cs = t.cs ∧ t'.session = t.session

/-- R75, R113: turned-away words leave no mark: any number of words presented to a busy engine are each turned away, and
the engine is then where it was. -/
def Obligations.TurnedAwayWordsLeaveNoMark : Prop :=
  ∀ (s : State) (ws : List PortWord) (rest : List HostEvent), s.busy = true →
    s.inputs = ws.map .issue ++ rest → after ws.length s = .next { s with inputs := rest }
end

