-- ==== Sys2Proof/Laws/State.lean ====
section
/-!
SUPPORT. One lemma per field per named update of the state, true by unfolding the update.
-/

namespace Sys2Proof.Machine

@[simp] theorem emit_present (s : State) (e : BusEvent) : (s.emit e).present = s.present := rfl
@[simp] theorem emit_mode (s : State) (e : BusEvent) : (s.emit e).mode = s.mode := rfl
@[simp] theorem emit_wstep (s : State) (e : BusEvent) : (s.emit e).wstep = s.wstep := rfl
@[simp] theorem emit_cur (s : State) (e : BusEvent) : (s.emit e).cur = s.cur := rfl
@[simp] theorem emit_phase (s : State) (e : BusEvent) : (s.emit e).phase = s.phase := rfl
@[simp] theorem emit_idx (s : State) (e : BusEvent) : (s.emit e).idx = s.idx := rfl
@[simp] theorem emit_wsel (s : State) (e : BusEvent) : (s.emit e).wsel = s.wsel := rfl
@[simp] theorem emit_cs (s : State) (e : BusEvent) : (s.emit e).cs = s.cs := rfl
@[simp] theorem emit_session (s : State) (e : BusEvent) : (s.emit e).session = s.session := rfl
@[simp] theorem emit_op (s : State) (e : BusEvent) : (s.emit e).op = s.op := rfl
@[simp] theorem emit_addr (s : State) (e : BusEvent) : (s.emit e).addr = s.addr := rfl
@[simp] theorem emit_val (s : State) (e : BusEvent) : (s.emit e).val = s.val := rfl
@[simp] theorem emit_base (s : State) (e : BusEvent) : (s.emit e).base = s.base := rfl
@[simp] theorem emit_cfg (s : State) (e : BusEvent) : (s.emit e).cfg = s.cfg := rfl
@[simp] theorem emit_rdata (s : State) (e : BusEvent) : (s.emit e).rdata = s.rdata := rfl
@[simp] theorem emit_acc (s : State) (e : BusEvent) : (s.emit e).acc = s.acc := rfl
@[simp] theorem emit_ret (s : State) (e : BusEvent) : (s.emit e).ret = s.ret := rfl
@[simp] theorem emit_presetSingle (s : State) (e : BusEvent) : (s.emit e).presetSingle = s.presetSingle := rfl
@[simp] theorem emit_presetDual (s : State) (e : BusEvent) : (s.emit e).presetDual = s.presetDual := rfl
@[simp] theorem emit_dummyTx (s : State) (e : BusEvent) : (s.emit e).dummyTx = s.dummyTx := rfl
@[simp] theorem emit_bus (s : State) (e : BusEvent) : (s.emit e).bus = s.bus ++ [e] := rfl
@[simp] theorem emit_diag (s : State) (e : BusEvent) : (s.emit e).diag = s.diag := rfl
@[simp] theorem emit_rets (s : State) (e : BusEvent) : (s.emit e).rets = s.rets := rfl
@[simp] theorem emit_inputs (s : State) (e : BusEvent) : (s.emit e).inputs = s.inputs := rfl
@[simp] theorem emit_remote (s : State) (e : BusEvent) : (s.emit e).remote = s.remote := rfl
@[simp] theorem emit_draws (s : State) (e : BusEvent) : (s.emit e).draws = s.draws := rfl

@[simp] theorem report_present (s : State) (d : DiagRecord) : (s.report d).present = s.present := rfl
@[simp] theorem report_mode (s : State) (d : DiagRecord) : (s.report d).mode = s.mode := rfl
@[simp] theorem report_wstep (s : State) (d : DiagRecord) : (s.report d).wstep = s.wstep := rfl
@[simp] theorem report_cur (s : State) (d : DiagRecord) : (s.report d).cur = s.cur := rfl
@[simp] theorem report_phase (s : State) (d : DiagRecord) : (s.report d).phase = s.phase := rfl
@[simp] theorem report_idx (s : State) (d : DiagRecord) : (s.report d).idx = s.idx := rfl
@[simp] theorem report_wsel (s : State) (d : DiagRecord) : (s.report d).wsel = s.wsel := rfl
@[simp] theorem report_cs (s : State) (d : DiagRecord) : (s.report d).cs = s.cs := rfl
@[simp] theorem report_session (s : State) (d : DiagRecord) : (s.report d).session = s.session := rfl
@[simp] theorem report_op (s : State) (d : DiagRecord) : (s.report d).op = s.op := rfl
@[simp] theorem report_addr (s : State) (d : DiagRecord) : (s.report d).addr = s.addr := rfl
@[simp] theorem report_val (s : State) (d : DiagRecord) : (s.report d).val = s.val := rfl
@[simp] theorem report_base (s : State) (d : DiagRecord) : (s.report d).base = s.base := rfl
@[simp] theorem report_cfg (s : State) (d : DiagRecord) : (s.report d).cfg = s.cfg := rfl
@[simp] theorem report_rdata (s : State) (d : DiagRecord) : (s.report d).rdata = s.rdata := rfl
@[simp] theorem report_acc (s : State) (d : DiagRecord) : (s.report d).acc = s.acc := rfl
@[simp] theorem report_ret (s : State) (d : DiagRecord) : (s.report d).ret = s.ret := rfl
@[simp] theorem report_presetSingle (s : State) (d : DiagRecord) : (s.report d).presetSingle =
    s.presetSingle := rfl
@[simp] theorem report_presetDual (s : State) (d : DiagRecord) : (s.report d).presetDual = s.presetDual := rfl
@[simp] theorem report_dummyTx (s : State) (d : DiagRecord) : (s.report d).dummyTx = s.dummyTx := rfl
@[simp] theorem report_bus (s : State) (d : DiagRecord) : (s.report d).bus = s.bus := rfl
@[simp] theorem report_diag (s : State) (d : DiagRecord) : (s.report d).diag = s.diag ++ [d] := rfl
@[simp] theorem report_rets (s : State) (d : DiagRecord) : (s.report d).rets = s.rets := rfl
@[simp] theorem report_inputs (s : State) (d : DiagRecord) : (s.report d).inputs = s.inputs := rfl
@[simp] theorem report_remote (s : State) (d : DiagRecord) : (s.report d).remote = s.remote := rfl
@[simp] theorem report_draws (s : State) (d : DiagRecord) : (s.report d).draws = s.draws := rfl

@[simp] theorem loseRet_present (s : State) : (s.loseRet).present = s.present := rfl
@[simp] theorem loseRet_mode (s : State) : (s.loseRet).mode = s.mode := rfl
@[simp] theorem loseRet_wstep (s : State) : (s.loseRet).wstep = s.wstep := rfl
@[simp] theorem loseRet_cur (s : State) : (s.loseRet).cur = s.cur := rfl
@[simp] theorem loseRet_phase (s : State) : (s.loseRet).phase = s.phase := rfl
@[simp] theorem loseRet_idx (s : State) : (s.loseRet).idx = s.idx := rfl
@[simp] theorem loseRet_wsel (s : State) : (s.loseRet).wsel = s.wsel := rfl
@[simp] theorem loseRet_cs (s : State) : (s.loseRet).cs = s.cs := rfl
@[simp] theorem loseRet_session (s : State) : (s.loseRet).session = s.session := rfl
@[simp] theorem loseRet_op (s : State) : (s.loseRet).op = s.op := rfl
@[simp] theorem loseRet_addr (s : State) : (s.loseRet).addr = s.addr := rfl
@[simp] theorem loseRet_val (s : State) : (s.loseRet).val = s.val := rfl
@[simp] theorem loseRet_base (s : State) : (s.loseRet).base = s.base := rfl
@[simp] theorem loseRet_cfg (s : State) : (s.loseRet).cfg = s.cfg := rfl
@[simp] theorem loseRet_rdata (s : State) : (s.loseRet).rdata = s.rdata := rfl
@[simp] theorem loseRet_acc (s : State) : (s.loseRet).acc = s.acc := rfl
@[simp] theorem loseRet_ret (s : State) : (s.loseRet).ret = Config.freeRet s.draws := rfl
@[simp] theorem loseRet_presetSingle (s : State) : (s.loseRet).presetSingle = s.presetSingle := rfl
@[simp] theorem loseRet_presetDual (s : State) : (s.loseRet).presetDual = s.presetDual := rfl
@[simp] theorem loseRet_dummyTx (s : State) : (s.loseRet).dummyTx = s.dummyTx := rfl
@[simp] theorem loseRet_bus (s : State) : (s.loseRet).bus = s.bus := rfl
@[simp] theorem loseRet_diag (s : State) : (s.loseRet).diag = s.diag := rfl
@[simp] theorem loseRet_rets (s : State) : (s.loseRet).rets = s.rets := rfl
@[simp] theorem loseRet_inputs (s : State) : (s.loseRet).inputs = s.inputs := rfl
@[simp] theorem loseRet_remote (s : State) : (s.loseRet).remote = s.remote := rfl
@[simp] theorem loseRet_draws (s : State) : (s.loseRet).draws = s.draws + 1 := rfl

@[simp] theorem reply_present (s : State) (v : RetVal) : (s.reply v).present = s.present := rfl
@[simp] theorem reply_mode (s : State) (v : RetVal) : (s.reply v).mode = s.mode := rfl
@[simp] theorem reply_wstep (s : State) (v : RetVal) : (s.reply v).wstep = s.wstep := rfl
@[simp] theorem reply_cur (s : State) (v : RetVal) : (s.reply v).cur = s.cur := rfl
@[simp] theorem reply_phase (s : State) (v : RetVal) : (s.reply v).phase = s.phase := rfl
@[simp] theorem reply_idx (s : State) (v : RetVal) : (s.reply v).idx = s.idx := rfl
@[simp] theorem reply_wsel (s : State) (v : RetVal) : (s.reply v).wsel = s.wsel := rfl
@[simp] theorem reply_cs (s : State) (v : RetVal) : (s.reply v).cs = s.cs := rfl
@[simp] theorem reply_session (s : State) (v : RetVal) : (s.reply v).session = s.session := rfl
@[simp] theorem reply_op (s : State) (v : RetVal) : (s.reply v).op = s.op := rfl
@[simp] theorem reply_addr (s : State) (v : RetVal) : (s.reply v).addr = s.addr := rfl
@[simp] theorem reply_val (s : State) (v : RetVal) : (s.reply v).val = s.val := rfl
@[simp] theorem reply_base (s : State) (v : RetVal) : (s.reply v).base = s.base := rfl
@[simp] theorem reply_cfg (s : State) (v : RetVal) : (s.reply v).cfg = s.cfg := rfl
@[simp] theorem reply_rdata (s : State) (v : RetVal) : (s.reply v).rdata = s.rdata := rfl
@[simp] theorem reply_acc (s : State) (v : RetVal) : (s.reply v).acc = s.acc := rfl
@[simp] theorem reply_ret (s : State) (v : RetVal) : (s.reply v).ret = v.word.getD s.ret := rfl
@[simp] theorem reply_presetSingle (s : State) (v : RetVal) : (s.reply v).presetSingle = s.presetSingle := rfl
@[simp] theorem reply_presetDual (s : State) (v : RetVal) : (s.reply v).presetDual = s.presetDual := rfl
@[simp] theorem reply_dummyTx (s : State) (v : RetVal) : (s.reply v).dummyTx = s.dummyTx := rfl
@[simp] theorem reply_bus (s : State) (v : RetVal) : (s.reply v).bus = s.bus := rfl
@[simp] theorem reply_diag (s : State) (v : RetVal) : (s.reply v).diag = s.diag := rfl
@[simp] theorem reply_rets (s : State) (v : RetVal) : (s.reply v).rets = s.rets ++ [v] := rfl
@[simp] theorem reply_inputs (s : State) (v : RetVal) : (s.reply v).inputs = s.inputs := rfl
@[simp] theorem reply_remote (s : State) (v : RetVal) : (s.reply v).remote = s.remote := rfl
@[simp] theorem reply_draws (s : State) (v : RetVal) : (s.reply v).draws = s.draws := rfl

@[simp] theorem exchange_present (s : State) (tx : Byte) : (s.exchange tx).present = s.present := rfl
@[simp] theorem exchange_mode (s : State) (tx : Byte) : (s.exchange tx).mode = s.mode := rfl
@[simp] theorem exchange_wstep (s : State) (tx : Byte) : (s.exchange tx).wstep = s.wstep := rfl
@[simp] theorem exchange_cur (s : State) (tx : Byte) : (s.exchange tx).cur = s.cur := rfl
@[simp] theorem exchange_phase (s : State) (tx : Byte) : (s.exchange tx).phase = s.phase := rfl
@[simp] theorem exchange_idx (s : State) (tx : Byte) : (s.exchange tx).idx = s.idx := rfl
@[simp] theorem exchange_wsel (s : State) (tx : Byte) : (s.exchange tx).wsel = s.wsel := rfl
@[simp] theorem exchange_cs (s : State) (tx : Byte) : (s.exchange tx).cs = s.cs := rfl
@[simp] theorem exchange_session (s : State) (tx : Byte) : (s.exchange tx).session = s.session := rfl
@[simp] theorem exchange_op (s : State) (tx : Byte) : (s.exchange tx).op = s.op := rfl
@[simp] theorem exchange_addr (s : State) (tx : Byte) : (s.exchange tx).addr = s.addr := rfl
@[simp] theorem exchange_val (s : State) (tx : Byte) : (s.exchange tx).val = s.val := rfl
@[simp] theorem exchange_base (s : State) (tx : Byte) : (s.exchange tx).base = s.base := rfl
@[simp] theorem exchange_cfg (s : State) (tx : Byte) : (s.exchange tx).cfg = s.cfg := rfl
@[simp] theorem exchange_rdata (s : State) (tx : Byte) : (s.exchange tx).rdata =
    (s.remote.exchange tx s.draws).1 := rfl
@[simp] theorem exchange_acc (s : State) (tx : Byte) : (s.exchange tx).acc = s.acc := rfl
@[simp] theorem exchange_ret (s : State) (tx : Byte) : (s.exchange tx).ret = s.ret := rfl
@[simp] theorem exchange_presetSingle (s : State) (tx : Byte) : (s.exchange tx).presetSingle =
    s.presetSingle := rfl
@[simp] theorem exchange_presetDual (s : State) (tx : Byte) : (s.exchange tx).presetDual = s.presetDual := rfl
@[simp] theorem exchange_dummyTx (s : State) (tx : Byte) : (s.exchange tx).dummyTx = s.dummyTx := rfl
@[simp] theorem exchange_bus (s : State) (tx : Byte) : (s.exchange tx).bus =
    s.bus ++ [.xfer tx (s.remote.exchange tx s.draws).1] := rfl
@[simp] theorem exchange_diag (s : State) (tx : Byte) : (s.exchange tx).diag = s.diag := rfl
@[simp] theorem exchange_rets (s : State) (tx : Byte) : (s.exchange tx).rets = s.rets := rfl
@[simp] theorem exchange_inputs (s : State) (tx : Byte) : (s.exchange tx).inputs = s.inputs := rfl
@[simp] theorem exchange_remote (s : State) (tx : Byte) : (s.exchange tx).remote =
    (s.remote.exchange tx s.draws).2 := rfl
@[simp] theorem exchange_draws (s : State) (tx : Byte) : (s.exchange tx).draws = s.draws + 1 := rfl

@[simp] theorem enterWait_present (s : State) (d : Nat) : (s.enterWait d).present = s.present := rfl
@[simp] theorem enterWait_mode (s : State) (d : Nat) : (s.enterWait d).mode = s.mode := rfl
@[simp] theorem enterWait_wstep (s : State) (d : Nat) : (s.enterWait d).wstep = s.wstep := rfl
@[simp] theorem enterWait_cur (s : State) (d : Nat) : (s.enterWait d).cur = s.cur := rfl
@[simp] theorem enterWait_phase (s : State) (d : Nat) : (s.enterWait d).phase = .waiting := rfl
@[simp] theorem enterWait_idx (s : State) (d : Nat) : (s.enterWait d).idx = s.idx := rfl
@[simp] theorem enterWait_wsel (s : State) (d : Nat) : (s.enterWait d).wsel = s.wsel := rfl
@[simp] theorem enterWait_cs (s : State) (d : Nat) : (s.enterWait d).cs = s.cs := rfl
@[simp] theorem enterWait_session (s : State) (d : Nat) : (s.enterWait d).session = s.session := rfl
@[simp] theorem enterWait_op (s : State) (d : Nat) : (s.enterWait d).op = s.op := rfl
@[simp] theorem enterWait_addr (s : State) (d : Nat) : (s.enterWait d).addr = s.addr := rfl
@[simp] theorem enterWait_val (s : State) (d : Nat) : (s.enterWait d).val = s.val := rfl
@[simp] theorem enterWait_base (s : State) (d : Nat) : (s.enterWait d).base = s.base := rfl
@[simp] theorem enterWait_cfg (s : State) (d : Nat) : (s.enterWait d).cfg = s.cfg := rfl
@[simp] theorem enterWait_rdata (s : State) (d : Nat) : (s.enterWait d).rdata = s.rdata := rfl
@[simp] theorem enterWait_acc (s : State) (d : Nat) : (s.enterWait d).acc = s.acc := rfl
@[simp] theorem enterWait_ret (s : State) (d : Nat) : (s.enterWait d).ret = s.ret := rfl
@[simp] theorem enterWait_presetSingle (s : State) (d : Nat) : (s.enterWait d).presetSingle = s.presetSingle := rfl
@[simp] theorem enterWait_presetDual (s : State) (d : Nat) : (s.enterWait d).presetDual = s.presetDual := rfl
@[simp] theorem enterWait_dummyTx (s : State) (d : Nat) : (s.enterWait d).dummyTx = s.dummyTx := rfl
@[simp] theorem enterWait_bus (s : State) (d : Nat) : (s.enterWait d).bus = s.bus ++ [.wait d] := rfl
@[simp] theorem enterWait_diag (s : State) (d : Nat) : (s.enterWait d).diag = s.diag := rfl
@[simp] theorem enterWait_rets (s : State) (d : Nat) : (s.enterWait d).rets = s.rets := rfl
@[simp] theorem enterWait_inputs (s : State) (d : Nat) : (s.enterWait d).inputs = s.inputs := rfl
@[simp] theorem enterWait_remote (s : State) (d : Nat) : (s.enterWait d).remote = s.remote := rfl
@[simp] theorem enterWait_draws (s : State) (d : Nat) : (s.enterWait d).draws = s.draws := rfl

@[simp] theorem latchOp_present (s : State) (b : Byte) : (s.latchOp b).present = s.present := rfl
@[simp] theorem latchOp_mode (s : State) (b : Byte) : (s.latchOp b).mode = s.mode := rfl
@[simp] theorem latchOp_wstep (s : State) (b : Byte) : (s.latchOp b).wstep = s.wstep := rfl
@[simp] theorem latchOp_cur (s : State) (b : Byte) : (s.latchOp b).cur = s.cur := rfl
@[simp] theorem latchOp_phase (s : State) (b : Byte) : (s.latchOp b).phase = s.phase := rfl
@[simp] theorem latchOp_idx (s : State) (b : Byte) : (s.latchOp b).idx = s.idx := rfl
@[simp] theorem latchOp_wsel (s : State) (b : Byte) : (s.latchOp b).wsel = s.wsel := rfl
@[simp] theorem latchOp_cs (s : State) (b : Byte) : (s.latchOp b).cs = s.cs := rfl
@[simp] theorem latchOp_session (s : State) (b : Byte) : (s.latchOp b).session = s.session := rfl
@[simp] theorem latchOp_op (s : State) (b : Byte) : (s.latchOp b).op = b := rfl
@[simp] theorem latchOp_addr (s : State) (b : Byte) : (s.latchOp b).addr = s.addr := rfl
@[simp] theorem latchOp_val (s : State) (b : Byte) : (s.latchOp b).val = s.val := rfl
@[simp] theorem latchOp_base (s : State) (b : Byte) : (s.latchOp b).base = s.base := rfl
@[simp] theorem latchOp_cfg (s : State) (b : Byte) : (s.latchOp b).cfg = s.cfg := rfl
@[simp] theorem latchOp_rdata (s : State) (b : Byte) : (s.latchOp b).rdata = s.rdata := rfl
@[simp] theorem latchOp_acc (s : State) (b : Byte) : (s.latchOp b).acc = s.acc := rfl
@[simp] theorem latchOp_ret (s : State) (b : Byte) : (s.latchOp b).ret = s.ret := rfl
@[simp] theorem latchOp_presetSingle (s : State) (b : Byte) : (s.latchOp b).presetSingle = s.presetSingle := rfl
@[simp] theorem latchOp_presetDual (s : State) (b : Byte) : (s.latchOp b).presetDual = s.presetDual := rfl
@[simp] theorem latchOp_dummyTx (s : State) (b : Byte) : (s.latchOp b).dummyTx = s.dummyTx := rfl
@[simp] theorem latchOp_bus (s : State) (b : Byte) : (s.latchOp b).bus = s.bus := rfl
@[simp] theorem latchOp_diag (s : State) (b : Byte) : (s.latchOp b).diag = s.diag := rfl
@[simp] theorem latchOp_rets (s : State) (b : Byte) : (s.latchOp b).rets = s.rets := rfl
@[simp] theorem latchOp_inputs (s : State) (b : Byte) : (s.latchOp b).inputs = s.inputs := rfl
@[simp] theorem latchOp_remote (s : State) (b : Byte) : (s.latchOp b).remote = s.remote := rfl
@[simp] theorem latchOp_draws (s : State) (b : Byte) : (s.latchOp b).draws = s.draws := rfl

@[simp] theorem latchAddr_present (s : State) (b : Byte) : (s.latchAddr b).present = s.present := rfl
@[simp] theorem latchAddr_mode (s : State) (b : Byte) : (s.latchAddr b).mode = s.mode := rfl
@[simp] theorem latchAddr_wstep (s : State) (b : Byte) : (s.latchAddr b).wstep = s.wstep := rfl
@[simp] theorem latchAddr_cur (s : State) (b : Byte) : (s.latchAddr b).cur = s.cur := rfl
@[simp] theorem latchAddr_phase (s : State) (b : Byte) : (s.latchAddr b).phase = s.phase := rfl
@[simp] theorem latchAddr_idx (s : State) (b : Byte) : (s.latchAddr b).idx = s.idx := rfl
@[simp] theorem latchAddr_wsel (s : State) (b : Byte) : (s.latchAddr b).wsel = s.wsel := rfl
@[simp] theorem latchAddr_cs (s : State) (b : Byte) : (s.latchAddr b).cs = s.cs := rfl
@[simp] theorem latchAddr_session (s : State) (b : Byte) : (s.latchAddr b).session = s.session := rfl
@[simp] theorem latchAddr_op (s : State) (b : Byte) : (s.latchAddr b).op = s.op := rfl
@[simp] theorem latchAddr_addr (s : State) (b : Byte) : (s.latchAddr b).addr = b := rfl
@[simp] theorem latchAddr_val (s : State) (b : Byte) : (s.latchAddr b).val = s.val := rfl
@[simp] theorem latchAddr_base (s : State) (b : Byte) : (s.latchAddr b).base = s.base := rfl
@[simp] theorem latchAddr_cfg (s : State) (b : Byte) : (s.latchAddr b).cfg = s.cfg := rfl
@[simp] theorem latchAddr_rdata (s : State) (b : Byte) : (s.latchAddr b).rdata = s.rdata := rfl
@[simp] theorem latchAddr_acc (s : State) (b : Byte) : (s.latchAddr b).acc = s.acc := rfl
@[simp] theorem latchAddr_ret (s : State) (b : Byte) : (s.latchAddr b).ret = s.ret := rfl
@[simp] theorem latchAddr_presetSingle (s : State) (b : Byte) : (s.latchAddr b).presetSingle =
    s.presetSingle := rfl
@[simp] theorem latchAddr_presetDual (s : State) (b : Byte) : (s.latchAddr b).presetDual = s.presetDual := rfl
@[simp] theorem latchAddr_dummyTx (s : State) (b : Byte) : (s.latchAddr b).dummyTx = s.dummyTx := rfl
@[simp] theorem latchAddr_bus (s : State) (b : Byte) : (s.latchAddr b).bus = s.bus := rfl
@[simp] theorem latchAddr_diag (s : State) (b : Byte) : (s.latchAddr b).diag = s.diag := rfl
@[simp] theorem latchAddr_rets (s : State) (b : Byte) : (s.latchAddr b).rets = s.rets := rfl
@[simp] theorem latchAddr_inputs (s : State) (b : Byte) : (s.latchAddr b).inputs = s.inputs := rfl
@[simp] theorem latchAddr_remote (s : State) (b : Byte) : (s.latchAddr b).remote = s.remote := rfl
@[simp] theorem latchAddr_draws (s : State) (b : Byte) : (s.latchAddr b).draws = s.draws := rfl

@[simp] theorem latchVal_present (s : State) (b : Byte) : (s.latchVal b).present = s.present := rfl
@[simp] theorem latchVal_mode (s : State) (b : Byte) : (s.latchVal b).mode = s.mode := rfl
@[simp] theorem latchVal_wstep (s : State) (b : Byte) : (s.latchVal b).wstep = s.wstep := rfl
@[simp] theorem latchVal_cur (s : State) (b : Byte) : (s.latchVal b).cur = s.cur := rfl
@[simp] theorem latchVal_phase (s : State) (b : Byte) : (s.latchVal b).phase = s.phase := rfl
@[simp] theorem latchVal_idx (s : State) (b : Byte) : (s.latchVal b).idx = s.idx := rfl
@[simp] theorem latchVal_wsel (s : State) (b : Byte) : (s.latchVal b).wsel = s.wsel := rfl
@[simp] theorem latchVal_cs (s : State) (b : Byte) : (s.latchVal b).cs = s.cs := rfl
@[simp] theorem latchVal_session (s : State) (b : Byte) : (s.latchVal b).session = s.session := rfl
@[simp] theorem latchVal_op (s : State) (b : Byte) : (s.latchVal b).op = s.op := rfl
@[simp] theorem latchVal_addr (s : State) (b : Byte) : (s.latchVal b).addr = s.addr := rfl
@[simp] theorem latchVal_val (s : State) (b : Byte) : (s.latchVal b).val = b := rfl
@[simp] theorem latchVal_base (s : State) (b : Byte) : (s.latchVal b).base = s.base := rfl
@[simp] theorem latchVal_cfg (s : State) (b : Byte) : (s.latchVal b).cfg = s.cfg := rfl
@[simp] theorem latchVal_rdata (s : State) (b : Byte) : (s.latchVal b).rdata = s.rdata := rfl
@[simp] theorem latchVal_acc (s : State) (b : Byte) : (s.latchVal b).acc = s.acc := rfl
@[simp] theorem latchVal_ret (s : State) (b : Byte) : (s.latchVal b).ret = s.ret := rfl
@[simp] theorem latchVal_presetSingle (s : State) (b : Byte) : (s.latchVal b).presetSingle = s.presetSingle := rfl
@[simp] theorem latchVal_presetDual (s : State) (b : Byte) : (s.latchVal b).presetDual = s.presetDual := rfl
@[simp] theorem latchVal_dummyTx (s : State) (b : Byte) : (s.latchVal b).dummyTx = s.dummyTx := rfl
@[simp] theorem latchVal_bus (s : State) (b : Byte) : (s.latchVal b).bus = s.bus := rfl
@[simp] theorem latchVal_diag (s : State) (b : Byte) : (s.latchVal b).diag = s.diag := rfl
@[simp] theorem latchVal_rets (s : State) (b : Byte) : (s.latchVal b).rets = s.rets := rfl
@[simp] theorem latchVal_inputs (s : State) (b : Byte) : (s.latchVal b).inputs = s.inputs := rfl
@[simp] theorem latchVal_remote (s : State) (b : Byte) : (s.latchVal b).remote = s.remote := rfl
@[simp] theorem latchVal_draws (s : State) (b : Byte) : (s.latchVal b).draws = s.draws := rfl

@[simp] theorem latchBase_present (s : State) (b : Byte) : (s.latchBase b).present = s.present := rfl
@[simp] theorem latchBase_mode (s : State) (b : Byte) : (s.latchBase b).mode = s.mode := rfl
@[simp] theorem latchBase_wstep (s : State) (b : Byte) : (s.latchBase b).wstep = s.wstep := rfl
@[simp] theorem latchBase_cur (s : State) (b : Byte) : (s.latchBase b).cur = s.cur := rfl
@[simp] theorem latchBase_phase (s : State) (b : Byte) : (s.latchBase b).phase = s.phase := rfl
@[simp] theorem latchBase_idx (s : State) (b : Byte) : (s.latchBase b).idx = s.idx := rfl
@[simp] theorem latchBase_wsel (s : State) (b : Byte) : (s.latchBase b).wsel = s.wsel := rfl
@[simp] theorem latchBase_cs (s : State) (b : Byte) : (s.latchBase b).cs = s.cs := rfl
@[simp] theorem latchBase_session (s : State) (b : Byte) : (s.latchBase b).session = s.session := rfl
@[simp] theorem latchBase_op (s : State) (b : Byte) : (s.latchBase b).op = s.op := rfl
@[simp] theorem latchBase_addr (s : State) (b : Byte) : (s.latchBase b).addr = s.addr := rfl
@[simp] theorem latchBase_val (s : State) (b : Byte) : (s.latchBase b).val = s.val := rfl
@[simp] theorem latchBase_base (s : State) (b : Byte) : (s.latchBase b).base = b := rfl
@[simp] theorem latchBase_cfg (s : State) (b : Byte) : (s.latchBase b).cfg = s.cfg := rfl
@[simp] theorem latchBase_rdata (s : State) (b : Byte) : (s.latchBase b).rdata = s.rdata := rfl
@[simp] theorem latchBase_acc (s : State) (b : Byte) : (s.latchBase b).acc = s.acc := rfl
@[simp] theorem latchBase_ret (s : State) (b : Byte) : (s.latchBase b).ret = s.ret := rfl
@[simp] theorem latchBase_presetSingle (s : State) (b : Byte) : (s.latchBase b).presetSingle =
    s.presetSingle := rfl
@[simp] theorem latchBase_presetDual (s : State) (b : Byte) : (s.latchBase b).presetDual = s.presetDual := rfl
@[simp] theorem latchBase_dummyTx (s : State) (b : Byte) : (s.latchBase b).dummyTx = s.dummyTx := rfl
@[simp] theorem latchBase_bus (s : State) (b : Byte) : (s.latchBase b).bus = s.bus := rfl
@[simp] theorem latchBase_diag (s : State) (b : Byte) : (s.latchBase b).diag = s.diag := rfl
@[simp] theorem latchBase_rets (s : State) (b : Byte) : (s.latchBase b).rets = s.rets := rfl
@[simp] theorem latchBase_inputs (s : State) (b : Byte) : (s.latchBase b).inputs = s.inputs := rfl
@[simp] theorem latchBase_remote (s : State) (b : Byte) : (s.latchBase b).remote = s.remote := rfl
@[simp] theorem latchBase_draws (s : State) (b : Byte) : (s.latchBase b).draws = s.draws := rfl

@[simp] theorem latchCfg_present (s : State) (c : Cfg) : (s.latchCfg c).present = s.present := rfl
@[simp] theorem latchCfg_mode (s : State) (c : Cfg) : (s.latchCfg c).mode = s.mode := rfl
@[simp] theorem latchCfg_wstep (s : State) (c : Cfg) : (s.latchCfg c).wstep = s.wstep := rfl
@[simp] theorem latchCfg_cur (s : State) (c : Cfg) : (s.latchCfg c).cur = s.cur := rfl
@[simp] theorem latchCfg_phase (s : State) (c : Cfg) : (s.latchCfg c).phase = s.phase := rfl
@[simp] theorem latchCfg_idx (s : State) (c : Cfg) : (s.latchCfg c).idx = s.idx := rfl
@[simp] theorem latchCfg_wsel (s : State) (c : Cfg) : (s.latchCfg c).wsel = s.wsel := rfl
@[simp] theorem latchCfg_cs (s : State) (c : Cfg) : (s.latchCfg c).cs = s.cs := rfl
@[simp] theorem latchCfg_session (s : State) (c : Cfg) : (s.latchCfg c).session = s.session := rfl
@[simp] theorem latchCfg_op (s : State) (c : Cfg) : (s.latchCfg c).op = s.op := rfl
@[simp] theorem latchCfg_addr (s : State) (c : Cfg) : (s.latchCfg c).addr = s.addr := rfl
@[simp] theorem latchCfg_val (s : State) (c : Cfg) : (s.latchCfg c).val = s.val := rfl
@[simp] theorem latchCfg_base (s : State) (c : Cfg) : (s.latchCfg c).base = s.base := rfl
@[simp] theorem latchCfg_cfg (s : State) (c : Cfg) : (s.latchCfg c).cfg = c := rfl
@[simp] theorem latchCfg_rdata (s : State) (c : Cfg) : (s.latchCfg c).rdata = s.rdata := rfl
@[simp] theorem latchCfg_acc (s : State) (c : Cfg) : (s.latchCfg c).acc = s.acc := rfl
@[simp] theorem latchCfg_ret (s : State) (c : Cfg) : (s.latchCfg c).ret = s.ret := rfl
@[simp] theorem latchCfg_presetSingle (s : State) (c : Cfg) : (s.latchCfg c).presetSingle = s.presetSingle := rfl
@[simp] theorem latchCfg_presetDual (s : State) (c : Cfg) : (s.latchCfg c).presetDual = s.presetDual := rfl
@[simp] theorem latchCfg_dummyTx (s : State) (c : Cfg) : (s.latchCfg c).dummyTx = s.dummyTx := rfl
@[simp] theorem latchCfg_bus (s : State) (c : Cfg) : (s.latchCfg c).bus = s.bus := rfl
@[simp] theorem latchCfg_diag (s : State) (c : Cfg) : (s.latchCfg c).diag = s.diag := rfl
@[simp] theorem latchCfg_rets (s : State) (c : Cfg) : (s.latchCfg c).rets = s.rets := rfl
@[simp] theorem latchCfg_inputs (s : State) (c : Cfg) : (s.latchCfg c).inputs = s.inputs := rfl
@[simp] theorem latchCfg_remote (s : State) (c : Cfg) : (s.latchCfg c).remote = s.remote := rfl
@[simp] theorem latchCfg_draws (s : State) (c : Cfg) : (s.latchCfg c).draws = s.draws := rfl

@[simp] theorem clearAcc_present (s : State) : (s.clearAcc).present = s.present := rfl
@[simp] theorem clearAcc_mode (s : State) : (s.clearAcc).mode = s.mode := rfl
@[simp] theorem clearAcc_wstep (s : State) : (s.clearAcc).wstep = s.wstep := rfl
@[simp] theorem clearAcc_cur (s : State) : (s.clearAcc).cur = s.cur := rfl
@[simp] theorem clearAcc_phase (s : State) : (s.clearAcc).phase = s.phase := rfl
@[simp] theorem clearAcc_idx (s : State) : (s.clearAcc).idx = s.idx := rfl
@[simp] theorem clearAcc_wsel (s : State) : (s.clearAcc).wsel = s.wsel := rfl
@[simp] theorem clearAcc_cs (s : State) : (s.clearAcc).cs = s.cs := rfl
@[simp] theorem clearAcc_session (s : State) : (s.clearAcc).session = s.session := rfl
@[simp] theorem clearAcc_op (s : State) : (s.clearAcc).op = s.op := rfl
@[simp] theorem clearAcc_addr (s : State) : (s.clearAcc).addr = s.addr := rfl
@[simp] theorem clearAcc_val (s : State) : (s.clearAcc).val = s.val := rfl
@[simp] theorem clearAcc_base (s : State) : (s.clearAcc).base = s.base := rfl
@[simp] theorem clearAcc_cfg (s : State) : (s.clearAcc).cfg = s.cfg := rfl
@[simp] theorem clearAcc_rdata (s : State) : (s.clearAcc).rdata = s.rdata := rfl
@[simp] theorem clearAcc_acc (s : State) : (s.clearAcc).acc = 0 := rfl
@[simp] theorem clearAcc_ret (s : State) : (s.clearAcc).ret = s.ret := rfl
@[simp] theorem clearAcc_presetSingle (s : State) : (s.clearAcc).presetSingle = s.presetSingle := rfl
@[simp] theorem clearAcc_presetDual (s : State) : (s.clearAcc).presetDual = s.presetDual := rfl
@[simp] theorem clearAcc_dummyTx (s : State) : (s.clearAcc).dummyTx = s.dummyTx := rfl
@[simp] theorem clearAcc_bus (s : State) : (s.clearAcc).bus = s.bus := rfl
@[simp] theorem clearAcc_diag (s : State) : (s.clearAcc).diag = s.diag := rfl
@[simp] theorem clearAcc_rets (s : State) : (s.clearAcc).rets = s.rets := rfl
@[simp] theorem clearAcc_inputs (s : State) : (s.clearAcc).inputs = s.inputs := rfl
@[simp] theorem clearAcc_remote (s : State) : (s.clearAcc).remote = s.remote := rfl
@[simp] theorem clearAcc_draws (s : State) : (s.clearAcc).draws = s.draws := rfl

@[simp] theorem accumulate_present (s : State) : (s.accumulate).present = s.present := rfl
@[simp] theorem accumulate_mode (s : State) : (s.accumulate).mode = s.mode := rfl
@[simp] theorem accumulate_wstep (s : State) : (s.accumulate).wstep = s.wstep := rfl
@[simp] theorem accumulate_cur (s : State) : (s.accumulate).cur = s.cur := rfl
@[simp] theorem accumulate_phase (s : State) : (s.accumulate).phase = s.phase := rfl
@[simp] theorem accumulate_idx (s : State) : (s.accumulate).idx = s.idx := rfl
@[simp] theorem accumulate_wsel (s : State) : (s.accumulate).wsel = s.wsel := rfl
@[simp] theorem accumulate_cs (s : State) : (s.accumulate).cs = s.cs := rfl
@[simp] theorem accumulate_session (s : State) : (s.accumulate).session = s.session := rfl
@[simp] theorem accumulate_op (s : State) : (s.accumulate).op = s.op := rfl
@[simp] theorem accumulate_addr (s : State) : (s.accumulate).addr = s.addr := rfl
@[simp] theorem accumulate_val (s : State) : (s.accumulate).val = s.val := rfl
@[simp] theorem accumulate_base (s : State) : (s.accumulate).base = s.base := rfl
@[simp] theorem accumulate_cfg (s : State) : (s.accumulate).cfg = s.cfg := rfl
@[simp] theorem accumulate_rdata (s : State) : (s.accumulate).rdata = s.rdata := rfl
@[simp] theorem accumulate_acc (s : State) : (s.accumulate).acc = (s.acc <<< 8) ||| s.rdata.setWidth 24 := rfl
@[simp] theorem accumulate_ret (s : State) : (s.accumulate).ret = s.ret := rfl
@[simp] theorem accumulate_presetSingle (s : State) : (s.accumulate).presetSingle = s.presetSingle := rfl
@[simp] theorem accumulate_presetDual (s : State) : (s.accumulate).presetDual = s.presetDual := rfl
@[simp] theorem accumulate_dummyTx (s : State) : (s.accumulate).dummyTx = s.dummyTx := rfl
@[simp] theorem accumulate_bus (s : State) : (s.accumulate).bus = s.bus := rfl
@[simp] theorem accumulate_diag (s : State) : (s.accumulate).diag = s.diag := rfl
@[simp] theorem accumulate_rets (s : State) : (s.accumulate).rets = s.rets := rfl
@[simp] theorem accumulate_inputs (s : State) : (s.accumulate).inputs = s.inputs := rfl
@[simp] theorem accumulate_remote (s : State) : (s.accumulate).remote = s.remote := rfl
@[simp] theorem accumulate_draws (s : State) : (s.accumulate).draws = s.draws := rfl

@[simp] theorem verifyStart_present (s : State) : (s.verifyStart).present = true := rfl
@[simp] theorem verifyStart_mode (s : State) : (s.verifyStart).mode = s.mode := rfl
@[simp] theorem verifyStart_wstep (s : State) : (s.verifyStart).wstep = s.wstep := rfl
@[simp] theorem verifyStart_cur (s : State) : (s.verifyStart).cur = s.cur := rfl
@[simp] theorem verifyStart_phase (s : State) : (s.verifyStart).phase = s.phase := rfl
@[simp] theorem verifyStart_idx (s : State) : (s.verifyStart).idx = s.idx := rfl
@[simp] theorem verifyStart_wsel (s : State) : (s.verifyStart).wsel = s.wsel := rfl
@[simp] theorem verifyStart_cs (s : State) : (s.verifyStart).cs = s.cs := rfl
@[simp] theorem verifyStart_session (s : State) : (s.verifyStart).session = s.session := rfl
@[simp] theorem verifyStart_op (s : State) : (s.verifyStart).op = s.op := rfl
@[simp] theorem verifyStart_addr (s : State) : (s.verifyStart).addr = s.addr := rfl
@[simp] theorem verifyStart_val (s : State) : (s.verifyStart).val = s.val := rfl
@[simp] theorem verifyStart_base (s : State) : (s.verifyStart).base = s.base := rfl
@[simp] theorem verifyStart_cfg (s : State) : (s.verifyStart).cfg = s.cfg := rfl
@[simp] theorem verifyStart_rdata (s : State) : (s.verifyStart).rdata = s.rdata := rfl
@[simp] theorem verifyStart_acc (s : State) : (s.verifyStart).acc = s.acc := rfl
@[simp] theorem verifyStart_ret (s : State) : (s.verifyStart).ret = s.ret := rfl
@[simp] theorem verifyStart_presetSingle (s : State) : (s.verifyStart).presetSingle = s.presetSingle := rfl
@[simp] theorem verifyStart_presetDual (s : State) : (s.verifyStart).presetDual = s.presetDual := rfl
@[simp] theorem verifyStart_dummyTx (s : State) : (s.verifyStart).dummyTx = s.dummyTx := rfl
@[simp] theorem verifyStart_bus (s : State) : (s.verifyStart).bus = s.bus := rfl
@[simp] theorem verifyStart_diag (s : State) : (s.verifyStart).diag = s.diag := rfl
@[simp] theorem verifyStart_rets (s : State) : (s.verifyStart).rets = s.rets := rfl
@[simp] theorem verifyStart_inputs (s : State) : (s.verifyStart).inputs = s.inputs := rfl
@[simp] theorem verifyStart_remote (s : State) : (s.verifyStart).remote = s.remote := rfl
@[simp] theorem verifyStart_draws (s : State) : (s.verifyStart).draws = s.draws := rfl

@[simp] theorem verifyByte_present (s : State) : (s.verifyByte).present =
    if s.rdata = cfgByte s.cfg s.idx then s.present else false := rfl
@[simp] theorem verifyByte_mode (s : State) : (s.verifyByte).mode = s.mode := rfl
@[simp] theorem verifyByte_wstep (s : State) : (s.verifyByte).wstep = s.wstep := rfl
@[simp] theorem verifyByte_cur (s : State) : (s.verifyByte).cur = s.cur := rfl
@[simp] theorem verifyByte_phase (s : State) : (s.verifyByte).phase = s.phase := rfl
@[simp] theorem verifyByte_idx (s : State) : (s.verifyByte).idx = s.idx := rfl
@[simp] theorem verifyByte_wsel (s : State) : (s.verifyByte).wsel = s.wsel := rfl
@[simp] theorem verifyByte_cs (s : State) : (s.verifyByte).cs = s.cs := rfl
@[simp] theorem verifyByte_session (s : State) : (s.verifyByte).session = s.session := rfl
@[simp] theorem verifyByte_op (s : State) : (s.verifyByte).op = s.op := rfl
@[simp] theorem verifyByte_addr (s : State) : (s.verifyByte).addr = s.addr := rfl
@[simp] theorem verifyByte_val (s : State) : (s.verifyByte).val = s.val := rfl
@[simp] theorem verifyByte_base (s : State) : (s.verifyByte).base = s.base := rfl
@[simp] theorem verifyByte_cfg (s : State) : (s.verifyByte).cfg = s.cfg := rfl
@[simp] theorem verifyByte_rdata (s : State) : (s.verifyByte).rdata = s.rdata := rfl
@[simp] theorem verifyByte_acc (s : State) : (s.verifyByte).acc = s.acc := rfl
@[simp] theorem verifyByte_ret (s : State) : (s.verifyByte).ret = s.ret := rfl
@[simp] theorem verifyByte_presetSingle (s : State) : (s.verifyByte).presetSingle = s.presetSingle := rfl
@[simp] theorem verifyByte_presetDual (s : State) : (s.verifyByte).presetDual = s.presetDual := rfl
@[simp] theorem verifyByte_dummyTx (s : State) : (s.verifyByte).dummyTx = s.dummyTx := rfl
@[simp] theorem verifyByte_bus (s : State) : (s.verifyByte).bus = s.bus := rfl
@[simp] theorem verifyByte_diag (s : State) : (s.verifyByte).diag =
    if s.rdata = cfgByte s.cfg s.idx then s.diag else s.diag ++ [.mismatch s.idx (cfgByte s.cfg s.idx) s.rdata] := rfl
@[simp] theorem verifyByte_rets (s : State) : (s.verifyByte).rets = s.rets := rfl
@[simp] theorem verifyByte_inputs (s : State) : (s.verifyByte).inputs = s.inputs := rfl
@[simp] theorem verifyByte_remote (s : State) : (s.verifyByte).remote = s.remote := rfl
@[simp] theorem verifyByte_draws (s : State) : (s.verifyByte).draws = s.draws := rfl

@[simp] theorem startFrame_present (s : State) (p : Prim) : (s.startFrame p).present = s.present := rfl
@[simp] theorem startFrame_mode (s : State) (p : Prim) : (s.startFrame p).mode = s.mode := rfl
@[simp] theorem startFrame_wstep (s : State) (p : Prim) : (s.startFrame p).wstep = s.wstep := rfl
@[simp] theorem startFrame_cur (s : State) (p : Prim) : (s.startFrame p).cur = some p := rfl
@[simp] theorem startFrame_phase (s : State) (p : Prim) : (s.startFrame p).phase = .fCs := rfl
@[simp] theorem startFrame_idx (s : State) (p : Prim) : (s.startFrame p).idx = s.idx := rfl
@[simp] theorem startFrame_wsel (s : State) (p : Prim) : (s.startFrame p).wsel = s.wsel := rfl
@[simp] theorem startFrame_cs (s : State) (p : Prim) : (s.startFrame p).cs = .low := rfl
@[simp] theorem startFrame_session (s : State) (p : Prim) : (s.startFrame p).session = s.session := rfl
@[simp] theorem startFrame_op (s : State) (p : Prim) : (s.startFrame p).op = s.op := rfl
@[simp] theorem startFrame_addr (s : State) (p : Prim) : (s.startFrame p).addr = s.addr := rfl
@[simp] theorem startFrame_val (s : State) (p : Prim) : (s.startFrame p).val = s.val := rfl
@[simp] theorem startFrame_base (s : State) (p : Prim) : (s.startFrame p).base = s.base := rfl
@[simp] theorem startFrame_cfg (s : State) (p : Prim) : (s.startFrame p).cfg = s.cfg := rfl
@[simp] theorem startFrame_rdata (s : State) (p : Prim) : (s.startFrame p).rdata = s.rdata := rfl
@[simp] theorem startFrame_acc (s : State) (p : Prim) : (s.startFrame p).acc = s.acc := rfl
@[simp] theorem startFrame_ret (s : State) (p : Prim) : (s.startFrame p).ret = s.ret := rfl
@[simp] theorem startFrame_presetSingle (s : State) (p : Prim) : (s.startFrame p).presetSingle =
    s.presetSingle := rfl
@[simp] theorem startFrame_presetDual (s : State) (p : Prim) : (s.startFrame p).presetDual = s.presetDual := rfl
@[simp] theorem startFrame_dummyTx (s : State) (p : Prim) : (s.startFrame p).dummyTx = s.dummyTx := rfl
@[simp] theorem startFrame_bus (s : State) (p : Prim) : (s.startFrame p).bus = s.bus ++ [.csAssert] := rfl
@[simp] theorem startFrame_diag (s : State) (p : Prim) : (s.startFrame p).diag = s.diag := rfl
@[simp] theorem startFrame_rets (s : State) (p : Prim) : (s.startFrame p).rets = s.rets := rfl
@[simp] theorem startFrame_inputs (s : State) (p : Prim) : (s.startFrame p).inputs = s.inputs := rfl
@[simp] theorem startFrame_remote (s : State) (p : Prim) : (s.startFrame p).remote = s.remote.onCsAssert := rfl
@[simp] theorem startFrame_draws (s : State) (p : Prim) : (s.startFrame p).draws = s.draws := rfl

@[simp] theorem openSession_present (s : State) : (s.openSession).present = s.present := rfl
@[simp] theorem openSession_mode (s : State) : (s.openSession).mode = s.mode := rfl
@[simp] theorem openSession_wstep (s : State) : (s.openSession).wstep = s.wstep := rfl
@[simp] theorem openSession_cur (s : State) : (s.openSession).cur = s.cur := rfl
@[simp] theorem openSession_phase (s : State) : (s.openSession).phase = .fCmd := rfl
@[simp] theorem openSession_idx (s : State) : (s.openSession).idx = s.idx := rfl
@[simp] theorem openSession_wsel (s : State) : (s.openSession).wsel = s.wsel := rfl
@[simp] theorem openSession_cs (s : State) : (s.openSession).cs = s.cs := rfl
@[simp] theorem openSession_session (s : State) : (s.openSession).session = .opened := rfl
@[simp] theorem openSession_op (s : State) : (s.openSession).op = s.op := rfl
@[simp] theorem openSession_addr (s : State) : (s.openSession).addr = s.addr := rfl
@[simp] theorem openSession_val (s : State) : (s.openSession).val = s.val := rfl
@[simp] theorem openSession_base (s : State) : (s.openSession).base = s.base := rfl
@[simp] theorem openSession_cfg (s : State) : (s.openSession).cfg = s.cfg := rfl
@[simp] theorem openSession_rdata (s : State) : (s.openSession).rdata = s.rdata := rfl
@[simp] theorem openSession_acc (s : State) : (s.openSession).acc = s.acc := rfl
@[simp] theorem openSession_ret (s : State) : (s.openSession).ret = s.ret := rfl
@[simp] theorem openSession_presetSingle (s : State) : (s.openSession).presetSingle = s.presetSingle := rfl
@[simp] theorem openSession_presetDual (s : State) : (s.openSession).presetDual = s.presetDual := rfl
@[simp] theorem openSession_dummyTx (s : State) : (s.openSession).dummyTx = s.dummyTx := rfl
@[simp] theorem openSession_bus (s : State) : (s.openSession).bus = s.bus ++ [openEvent] := rfl
@[simp] theorem openSession_diag (s : State) : (s.openSession).diag = s.diag := rfl
@[simp] theorem openSession_rets (s : State) : (s.openSession).rets = s.rets := rfl
@[simp] theorem openSession_inputs (s : State) : (s.openSession).inputs = s.inputs := rfl
@[simp] theorem openSession_remote (s : State) : (s.openSession).remote = s.remote := rfl
@[simp] theorem openSession_draws (s : State) : (s.openSession).draws = s.draws := rfl

@[simp] theorem closeSession_present (s : State) : (s.closeSession).present = s.present := rfl
@[simp] theorem closeSession_mode (s : State) : (s.closeSession).mode = s.mode := rfl
@[simp] theorem closeSession_wstep (s : State) : (s.closeSession).wstep = s.wstep := rfl
@[simp] theorem closeSession_cur (s : State) : (s.closeSession).cur = s.cur := rfl
@[simp] theorem closeSession_phase (s : State) : (s.closeSession).phase = .fClose := rfl
@[simp] theorem closeSession_idx (s : State) : (s.closeSession).idx = s.idx := rfl
@[simp] theorem closeSession_wsel (s : State) : (s.closeSession).wsel = s.wsel := rfl
@[simp] theorem closeSession_cs (s : State) : (s.closeSession).cs = s.cs := rfl
@[simp] theorem closeSession_session (s : State) : (s.closeSession).session = .closed := rfl
@[simp] theorem closeSession_op (s : State) : (s.closeSession).op = s.op := rfl
@[simp] theorem closeSession_addr (s : State) : (s.closeSession).addr = s.addr := rfl
@[simp] theorem closeSession_val (s : State) : (s.closeSession).val = s.val := rfl
@[simp] theorem closeSession_base (s : State) : (s.closeSession).base = s.base := rfl
@[simp] theorem closeSession_cfg (s : State) : (s.closeSession).cfg = s.cfg := rfl
@[simp] theorem closeSession_rdata (s : State) : (s.closeSession).rdata = s.rdata := rfl
@[simp] theorem closeSession_acc (s : State) : (s.closeSession).acc = s.acc := rfl
@[simp] theorem closeSession_ret (s : State) : (s.closeSession).ret = s.ret := rfl
@[simp] theorem closeSession_presetSingle (s : State) : (s.closeSession).presetSingle = s.presetSingle := rfl
@[simp] theorem closeSession_presetDual (s : State) : (s.closeSession).presetDual = s.presetDual := rfl
@[simp] theorem closeSession_dummyTx (s : State) : (s.closeSession).dummyTx = s.dummyTx := rfl
@[simp] theorem closeSession_bus (s : State) : (s.closeSession).bus = s.bus ++ [.sessionClose] := rfl
@[simp] theorem closeSession_diag (s : State) : (s.closeSession).diag = s.diag := rfl
@[simp] theorem closeSession_rets (s : State) : (s.closeSession).rets = s.rets := rfl
@[simp] theorem closeSession_inputs (s : State) : (s.closeSession).inputs = s.inputs := rfl
@[simp] theorem closeSession_remote (s : State) : (s.closeSession).remote = s.remote := rfl
@[simp] theorem closeSession_draws (s : State) : (s.closeSession).draws = s.draws := rfl

@[simp] theorem releaseCs_present (s : State) : (s.releaseCs).present = s.present := rfl
@[simp] theorem releaseCs_mode (s : State) : (s.releaseCs).mode = s.mode := rfl
@[simp] theorem releaseCs_wstep (s : State) : (s.releaseCs).wstep = s.wstep := rfl
@[simp] theorem releaseCs_cur (s : State) : (s.releaseCs).cur = none := rfl
@[simp] theorem releaseCs_phase (s : State) : (s.releaseCs).phase = .idle := rfl
@[simp] theorem releaseCs_idx (s : State) : (s.releaseCs).idx = s.idx := rfl
@[simp] theorem releaseCs_wsel (s : State) : (s.releaseCs).wsel = s.wsel := rfl
@[simp] theorem releaseCs_cs (s : State) : (s.releaseCs).cs = .high := rfl
@[simp] theorem releaseCs_session (s : State) : (s.releaseCs).session = s.session := rfl
@[simp] theorem releaseCs_op (s : State) : (s.releaseCs).op = s.op := rfl
@[simp] theorem releaseCs_addr (s : State) : (s.releaseCs).addr = s.addr := rfl
@[simp] theorem releaseCs_val (s : State) : (s.releaseCs).val = s.val := rfl
@[simp] theorem releaseCs_base (s : State) : (s.releaseCs).base = s.base := rfl
@[simp] theorem releaseCs_cfg (s : State) : (s.releaseCs).cfg = s.cfg := rfl
@[simp] theorem releaseCs_rdata (s : State) : (s.releaseCs).rdata = s.rdata := rfl
@[simp] theorem releaseCs_acc (s : State) : (s.releaseCs).acc = s.acc := rfl
@[simp] theorem releaseCs_ret (s : State) : (s.releaseCs).ret = s.ret := rfl
@[simp] theorem releaseCs_presetSingle (s : State) : (s.releaseCs).presetSingle = s.presetSingle := rfl
@[simp] theorem releaseCs_presetDual (s : State) : (s.releaseCs).presetDual = s.presetDual := rfl
@[simp] theorem releaseCs_dummyTx (s : State) : (s.releaseCs).dummyTx = s.dummyTx := rfl
@[simp] theorem releaseCs_bus (s : State) : (s.releaseCs).bus = s.bus ++ [.csDeassert] := rfl
@[simp] theorem releaseCs_diag (s : State) : (s.releaseCs).diag = s.diag := rfl
@[simp] theorem releaseCs_rets (s : State) : (s.releaseCs).rets = s.rets := rfl
@[simp] theorem releaseCs_inputs (s : State) : (s.releaseCs).inputs = s.inputs := rfl
@[simp] theorem releaseCs_remote (s : State) : (s.releaseCs).remote = s.remote := rfl
@[simp] theorem releaseCs_draws (s : State) : (s.releaseCs).draws = s.draws := rfl

end Sys2Proof.Machine
end

