-- ==== Sys2Proof/Laws/Run.lean ====
section
/-!
SUPPORT. Runs: how `after` composes, what a step is inside a frame and between frames, and the run of one whole frame,
which is R77's procedure.
-/

namespace Sys2Proof.Laws

open Sys2Proof.Machine Sys2Proof.Safety

theorem after_add (a b : Nat) (s : State) :
    after (a + b) s =
      match after a s with
      | .next t => after b t
      | .fault f => .fault f
      | .refused r => .refused r := by
  induction a generalizing s with
  | zero => simp [after]
  | succ a ih =>
    rw [Nat.succ_add]
    simp only [after]
    cases step s <;> simp [ih]

theorem after_trans {a b : Nat} {s t u : State} (h : after a s = .next t) (h' : after b t = .next u) :
    after (a + b) s = .next u := by
  rw [after_add, h]
  exact h'

theorem after_one {s t : State} (h : step s = .next t) : after 1 s = .next t := by simp [after, h]

theorem after_step {k : Nat} {s t u : State} (h : step s = .next t) (h' : after k t = .next u) :
    after (k + 1) s = .next u := by
  simp [after, h, h']

/-! ### Single steps -/

/-- With nothing presented and no frame to begin, a step is one transition of the sequencer. -/
theorem step_eq_advance {s : State} (hi : s.inputs = []) (hw : workflowFrame s = none) : step s = advance s := by
  simp [step, fetch, fetchInternal, hi, hw]

/-- With nothing presented, the frame a workflow step calls for is run. -/
theorem step_eq_exec {s : State} {i : Instr} (hi : s.inputs = []) (hw : workflowFrame s = some i) :
    step s = exec i s := by
  simp [step, fetch, fetchInternal, hi, hw]

theorem workflowFrame_eq_none_of_phase {s : State} (hp : s.phase ≠ .idle) : workflowFrame s = none := by
  simp [workflowFrame, hp]

theorem step_in_frame {s : State} (hi : s.inputs = []) (hp : s.phase ≠ .idle) : step s = advance s :=
  step_eq_advance hi (workflowFrame_eq_none_of_phase hp)

/-! ### The operand list -/

theorem cfgOfList_toList (c : Cfg) : cfgOfList c.toList = some c := by
  have h : c.toList.length = 17 := by simp
  rw [cfgOfList, dif_pos h]
  rfl

theorem cfgOfList_of_length {l : List Byte} (h : l.length = 17) : ∃ c : Cfg, cfgOfList l = some c ∧ c.toList = l :=
  ⟨⟨l.toArray, by simpa using h⟩, by simp [cfgOfList, h], rfl⟩

/-! ### One frame -/

/-- What a primitive transmits in payload exchange `i` (R73), from the latches as they stand. -/
def txOf (p : Prim) (s : State) (i : Nat) : Byte := ({ s with idx := i } : State).txByte p

/-- The state at another place of the sequencer. -/
def place (ph : Phase) (cu : Option Prim) (cs : Level) (se : Session) (s : State) : State :=
  { s with phase := ph, cur := cu, cs := cs, session := se }

theorem onPayload_place (p : Prim) (ph : Phase) (cu : Option Prim) (cs : Level) (se : Session) (s : State) :
    (place ph cu cs se s).onPayload p = place ph cu cs se (s.onPayload p) := by
  cases p <;> rfl

/-- The payload loop does not look at the place. -/
theorem procPayload_place (tx : Nat → Byte) (p : Prim) (ph : Phase) (cu : Option Prim) (cs : Level) (se : Session)
    (k : Nat) (s : State) :
    procPayload tx (State.onPayload · p) k (place ph cu cs se s) =
      place ph cu cs se (procPayload tx (State.onPayload · p) k s) := by
  induction k generalizing s with
  | zero => rfl
  | succ k ih =>
    simp only [procPayload]
    rw [← ih]
    cases p <;> rfl

theorem txOf_payloadByte (p : Prim) (s : State) : txOf p (s.payloadByte p) = txOf p s := by
  cases p <;> rfl

theorem payloadByte_kept (p : Prim) (s : State) :
    (s.payloadByte p).phase = s.phase ∧ (s.payloadByte p).cur = s.cur ∧ (s.payloadByte p).inputs = s.inputs ∧
    (s.payloadByte p).wstep = s.wstep ∧ (s.payloadByte p).idx = s.idx + 1 := by
  cases p <;> exact ⟨rfl, rfl, rfl, rfl, rfl⟩

/-- The payload exchanges of a frame, one a step, are the payload loop of R77. -/
theorem after_payload (p : Prim) (k : Nat) (s : State) (hi : s.inputs = []) (hp : s.phase = .fData)
    (hc : s.cur = some p) (hk : s.idx + k = p.payloadLen) :
    after k s = .next (procPayload (txOf p s) (State.onPayload · p) k s) ∧
    (procPayload (txOf p s) (State.onPayload · p) k s).idx = p.payloadLen ∧
    (procPayload (txOf p s) (State.onPayload · p) k s).phase = .fData ∧
    (procPayload (txOf p s) (State.onPayload · p) k s).cur = some p ∧
    (procPayload (txOf p s) (State.onPayload · p) k s).inputs = [] ∧
    (procPayload (txOf p s) (State.onPayload · p) k s).wstep = s.wstep := by
  induction k generalizing s with
  | zero => exact ⟨rfl, (Nat.add_zero _).symm.trans hk, hp, hc, hi, rfl⟩
  | succ k ih =>
    obtain ⟨h1, h2, h3, h4, h5⟩ := payloadByte_kept p s
    have hs : step s = .next (s.payloadByte p) := by
      rw [step_in_frame hi (by simp [hp])]
      simp [advance, hp, hc, show s.idx < p.payloadLen by omega]
    have := ih (s.payloadByte p) (by rw [h3, hi]) (by rw [h1, hp]) (by rw [h2, hc]) (by omega)
    rw [txOf_payloadByte, h4] at this
    obtain ⟨g1, g2⟩ := this
    exact ⟨after_step hs g1, g2⟩

/-- One whole frame up to its `SessionClose`: whoever began it, releasing chip-select then leaves R77's `Frame`. -/
theorem after_frame (p : Prim) (s : State) (hi : s.inputs = []) :
    ∃ f, after (p.payloadLen + 3) (s.startFrame p) = .next f ∧ f.phase = .fClose ∧ f.cur = some p ∧
      f.inputs = [] ∧ f.wstep = s.wstep ∧
      f.releaseCs = procFrame (s.cmdByte p) p.payloadLen (txOf p s) (State.onPayload · p) s := by
  have h1 : step (s.startFrame p) = .next (s.startFrame p).openSession := by
    rw [step_in_frame (s := s.startFrame p) hi (by simp)]
    simp [advance]
  have h2 : step (s.startFrame p).openSession = .next ((s.startFrame p).openSession.sendCommand p) := by
    rw [step_in_frame (s := (s.startFrame p).openSession) hi (by simp)]
    simp [advance]
  obtain ⟨g1, g2, g3, g4, g5, g6⟩ := after_payload p p.payloadLen ((s.startFrame p).openSession.sendCommand p)
    hi rfl rfl (Nat.zero_add _)
  generalize hq : procPayload (txOf p ((s.startFrame p).openSession.sendCommand p)) (State.onPayload · p) p.payloadLen
    ((s.startFrame p).openSession.sendCommand p) = q at g1 g2 g3 g4 g5 g6
  have h3 : step q = .next q.closeSession := by
    rw [step_in_frame g5 (by simp [g3])]
    simp [advance, g3, g4, g2]
  refine ⟨q.closeSession, ?_, rfl, by simpa using g4, by simpa using g5, g6, ?_⟩
  · have := after_step h1 (after_step h2 (after_trans g1 (after_one h3)))
    simpa [Nat.add_assoc] using this
  · have e : (s.startFrame p).openSession.sendCommand p =
        place .fData (some p) .low .opened { (procBegin s).exchange (s.cmdByte p) with idx := 0 } := by
      have : s.bus ++ [BusEvent.csAssert, openEvent] = s.bus ++ [.csAssert] ++ [openEvent] := by simp
      simp only [State.startFrame, State.openSession, State.sendCommand, State.exchange, place, procBegin, this]
      cases p <;> rfl
    have ht : txOf p ((s.startFrame p).openSession.sendCommand p) = txOf p s := by cases p <;> rfl
    rw [ht, e, procPayload_place] at hq
    rw [← hq]
    simp [State.closeSession, State.releaseCs, place, procFrame, procEnd]

theorem result_releaseCs (p : Prim) (f : State) : f.result p = f.releaseCs.result p := by cases p <;> rfl

/-- The frame of a host-issued primitive ends in its `Ret` (R74 row 6). -/
theorem after_host_frame (p : Prim) (s : State) (hi : s.inputs = []) (hw : s.wstep = .wNone) :
    after (p.payloadLen + 4) (s.startFrame p) =
      .next ((procFrame (s.cmdByte p) p.payloadLen (txOf p s) (State.onPayload · p) s).reply
        ((procFrame (s.cmdByte p) p.payloadLen (txOf p s) (State.onPayload · p) s).result p)) := by
  obtain ⟨f, h, hp, hc, hin, hws, hr⟩ := after_frame p s hi
  refine after_trans (a := p.payloadLen + 3) (b := 1) h (after_one ?_)
  rw [step_in_frame hin (by simp [hp]), ← hr, ← result_releaseCs]
  simp [advance, hp, hc, endFrame, hws, hw]

/-- The frame of a workflow step goes on to the next step (R111). -/
theorem after_workflow_frame (p : Prim) (s : State) (w : WStep) (hi : s.inputs = []) (hw : s.wstep ≠ .wNone)
    (hn : s.wstep.afterFrame (procFrame (s.cmdByte p) p.payloadLen (txOf p s) (State.onPayload · p) s).present = some w) :
    after (p.payloadLen + 4) (s.startFrame p) =
      .next { procFrame (s.cmdByte p) p.payloadLen (txOf p s) (State.onPayload · p) s with wstep := w } := by
  obtain ⟨f, h, hp, hc, hin, hws, hr⟩ := after_frame p s hi
  refine after_trans (a := p.payloadLen + 3) (b := 1) h (after_one ?_)
  rw [step_in_frame hin (by simp [hp]), ← hr]
  rw [← hr, ← hws] at hn
  simp only [releaseCs_present] at hn
  simp [advance, hp, hc, endFrame, hws, hw]
  rw [← hws, hn]

end Sys2Proof.Laws
end

