-- ==== Sys2Proof/Laws/Memory.lean ====
section
/-!
SUPPORT. The reference remote's memories: a write keeps the canonical form, a read after a write, and what an exchange
does to them.
-/

namespace Sys2Proof.Laws

open Sys2Proof.Machine Sys2Proof.Safety

theorem wf_cons {a : Nat} {v : Byte} {m : Memory} :
    Memory.wf ((a, v) :: m) = true ↔
      a < 32 ∧ v ≠ Config.remoteFill ∧ (∀ c ∈ m, a < c.1) ∧ Memory.wf m = true := by
  simp [Memory.wf, and_assoc]

theorem mem_write {m : Memory} {a : Nat} {v : Byte} {c : Host.Cell} (h : c ∈ m.write a v) : c.1 = a ∨ c ∈ m := by
  induction m with
  | nil =>
    simp only [Memory.write] at h
    split at h <;> simp_all
  | cons d m ih =>
    obtain ⟨b, w⟩ := d
    simp only [Memory.write] at h
    split at h
    · split at h
      · exact .inr h
      · rcases List.mem_cons.1 h with rfl | h
        · exact .inl rfl
        · exact .inr h
    · split at h
      · split at h
        · exact .inr (List.mem_cons_of_mem _ h)
        · rcases List.mem_cons.1 h with rfl | h
          · exact .inl rfl
          · exact .inr (List.mem_cons_of_mem _ h)
      · rcases List.mem_cons.1 h with rfl | h
        · exact .inr (List.mem_cons_self ..)
        · exact (ih h).imp_right (List.mem_cons_of_mem _)

/-- A write of an address in 0..31 keeps the canonical form. -/
theorem wf_write {m : Memory} (hm : m.wf = true) {a : Nat} (ha : a < 32) (v : Byte) : (m.write a v).wf = true := by
  induction m with
  | nil =>
    simp only [Memory.write]
    split
    · rfl
    · next hv => exact wf_cons.2 ⟨ha, hv, by simp, rfl⟩
  | cons d m ih =>
    obtain ⟨b, w⟩ := d
    obtain ⟨h1, h2, h3, h4⟩ := wf_cons.1 hm
    simp only [Memory.write]
    split
    · next hab =>
      split
      · exact hm
      · next hv =>
        refine wf_cons.2 ⟨ha, hv, ?_, hm⟩
        intro c hc
        rcases List.mem_cons.1 hc with rfl | hc
        · exact hab
        · exact hab.trans (h3 c hc)
    · next hab =>
      split
      · next he =>
        subst he
        split
        · exact h4
        · next hv => exact wf_cons.2 ⟨ha, hv, h3, h4⟩
      · next he =>
        refine wf_cons.2 ⟨h1, h2, ?_, ih h4⟩
        intro c hc
        rcases mem_write hc with hc | hc
        · omega
        · exact h3 c hc

/-- An address below every listed one reads as the fill byte. -/
theorem read_of_lt {m : Memory} {a : Nat} (h : ∀ c ∈ m, a < c.1) : m.read a = Config.remoteFill := by
  induction m with
  | nil => rfl
  | cons d m ih =>
    obtain ⟨b, w⟩ := d
    have hb : a < b := h _ (List.mem_cons_self ..)
    simp only [Memory.read, if_neg (Nat.ne_of_gt hb)]
    exact ih (fun c hc => h c (List.mem_cons_of_mem _ hc))

/-- Read after write: the byte written, and every other byte as before. -/
theorem read_write {m : Memory} (hm : m.wf = true) (a x : Nat) (v : Byte) :
    (m.write a v).read x = if x = a then v else m.read x := by
  induction m with
  | nil =>
    simp only [Memory.write]
    split
    · next hv => simp [Memory.read, hv]
    · simp only [Memory.read, eq_comm (a := a)]
  | cons d m ih =>
    obtain ⟨b, w⟩ := d
    obtain ⟨h1, h2, h3, h4⟩ := wf_cons.1 hm
    simp only [Memory.write]
    split
    · next hab =>
      split
      · next hv =>
        split
        · next hx =>
          subst hx
          rw [hv]
          refine read_of_lt ?_
          intro c hc
          rcases List.mem_cons.1 hc with rfl | hc
          · exact hab
          · exact hab.trans (h3 c hc)
        · rfl
      · simp only [Memory.read, eq_comm (a := a)]
    · next hab =>
      split
      · next he =>
        subst he
        split
        · next hv =>
          split
          · next hx =>
            subst hx
            rw [hv]
            exact read_of_lt h3
          · next hx => simp [Memory.read, Ne.symm hx]
        · simp only [Memory.read]
          by_cases hx : x = a
          · simp [hx]
          · simp [hx, Ne.symm hx]
      · next he =>
        simp only [Memory.read, ih h4]
        by_cases hx : x = a
        · subst hx
          simp [Ne.symm he]
        · simp [hx]

/-! ### The remote -/

/-- Both memories in canonical form, for the one kind of remote that has any. -/
def remoteOk : Remote → Prop
  | .reference r => r.reg.wf = true ∧ r.res.wf = true
  | .oracle _ => True
  | .silent _ => True

theorem remoteWf_iff (s : State) : RemoteWf s ↔ remoteOk s.remote := by
  unfold RemoteWf remoteOk
  cases s.remote <;> rfl

theorem remoteOk_onCsAssert {r : Remote} (h : remoteOk r) : remoteOk r.onCsAssert := by
  cases r <;> exact h

theorem refTdc_res_exchange (tx : Byte) (r : RefTdc) : (r.exchange tx).2.res = r.res := by
  unfold RefTdc.exchange
  cases r.sel <;> simp only []
  cases decodeCmd tx <;> rfl

/-- Only an exchange inside a write frame changes a register. -/
theorem refTdc_reg_exchange (tx : Byte) (r : RefTdc) :
    (r.exchange tx).2.reg = if r.sel = .wr then r.reg.write r.ptr.toNat tx else r.reg := by
  unfold RefTdc.exchange
  cases r.sel <;> simp
  cases decodeCmd tx <;> rfl

theorem remoteOk_exchange {r : Remote} (h : remoteOk r) (tx : Byte) (n : Nat) : remoteOk (r.exchange tx n).2 := by
  cases r with
  | oracle script => cases script <;> trivial
  | silent z => trivial
  | reference r =>
    refine ⟨?_, ?_⟩
    · show Memory.wf (r.exchange tx).2.reg = true
      rw [refTdc_reg_exchange]
      split
      · exact wf_write h.1 (by omega) tx
      · exact h.1
    · show Memory.wf (r.exchange tx).2.res = true
      rw [refTdc_res_exchange]
      exact h.2

@[simp] theorem regOf_onCsAssert (r : Remote) : regOf r.onCsAssert = regOf r := by cases r <;> rfl
@[simp] theorem resOf_onCsAssert (r : Remote) : resOf r.onCsAssert = resOf r := by cases r <;> rfl

@[simp] theorem resOf_exchange (tx : Byte) (n : Nat) (r : Remote) : resOf (r.exchange tx n).2 = resOf r := by
  cases r with
  | oracle script => cases script <;> rfl
  | silent z => rfl
  | reference r => exact refTdc_res_exchange tx r

end Sys2Proof.Laws
end

