-- ==== Sys2Proof/Laws/PerInstr.lean ====
section
/-!
SUPPORT. Per instruction: the shape of a well-formed instruction's word (30_encoding.md R58, R60).
-/

namespace Sys2Proof.Laws.WordShape

/-- The bytes a chip-select window exchanges for a wire row: the command byte and R58's payload. A host row opens no
window of its own. -/
def exchanges : Instr → Option Nat
  | .powerReset => some 1
  | .initStart => some 1
  | .writeReg _ _ => some 2
  | .readReg _ => some 2
  | .writeConfig _ => some 18
  | .readConfig => some 18
  | .readResult _ => some 4
  | .sendop _ | .wrreg _ _ | .rdreg _ | .wrcfg _ | .vfycfg _ | .rdres _
  | .cfgsingle | .cfgdual | .ispresent | .isdual => none

/-- The host code and the number of operand bytes of a host row (R60). -/
def hostForm : Instr → Option (Hcmd × Nat)
  | .sendop _ => some (0x1, 1)
  | .wrreg _ _ => some (0x2, 2)
  | .rdreg _ => some (0x3, 1)
  | .wrcfg _ => some (0x4, 17)
  | .vfycfg _ => some (0x5, 17)
  | .rdres _ => some (0x6, 1)
  | .cfgsingle => some (0x7, 0)
  | .cfgdual => some (0x8, 0)
  | .ispresent => some (0x9, 0)
  | .isdual => some (0xA, 0)
  | .powerReset | .initStart | .writeReg _ _ | .readReg _ | .writeConfig _ | .readConfig | .readResult _ => none

/-- A well-formed instruction's word is a chip-select window of its length, or its host code with its operand bytes,
whatever `DUMMY_TX` is. -/
def Statement (i : Instr) : Prop :=
  i.wellFormed = true → ∀ dummy : Byte,
    match encode dummy i with
    | .wire bytes => exchanges i = some bytes.length ∧ hostForm i = none
    | .host h operands => hostForm i = some (h, operands.length) ∧ exchanges i = none

theorem powerReset : Statement .powerReset := fun _ _ => ⟨rfl, rfl⟩
theorem initStart : Statement .initStart := fun _ _ => ⟨rfl, rfl⟩
theorem writeReg (adr : Adr) (val : Byte) : Statement (.writeReg adr val) := fun _ _ => ⟨rfl, rfl⟩
theorem readReg (adr : Adr) : Statement (.readReg adr) := fun _ _ => ⟨rfl, rfl⟩
theorem writeConfig (cfg : List Byte) : Statement (.writeConfig cfg) := by
  intro h _
  simp_all [Instr.wellFormed, cfgComplete, encode, exchanges, hostForm]
theorem readConfig : Statement .readConfig := fun _ _ => ⟨rfl, rfl⟩
theorem readResult (adr : Adr) : Statement (.readResult adr) := fun _ _ => ⟨rfl, rfl⟩
theorem sendop (op : Byte) : Statement (.sendop op) := fun _ _ => ⟨rfl, rfl⟩
theorem wrreg (addr val : Byte) : Statement (.wrreg addr val) := fun _ _ => ⟨rfl, rfl⟩
theorem rdreg (addr : Byte) : Statement (.rdreg addr) := fun _ _ => ⟨rfl, rfl⟩
theorem wrcfg (cfg : List Byte) : Statement (.wrcfg cfg) := by
  intro h _
  simp_all [Instr.wellFormed, cfgComplete, encode, exchanges, hostForm]
theorem vfycfg (cfg : List Byte) : Statement (.vfycfg cfg) := by
  intro h _
  simp_all [Instr.wellFormed, cfgComplete, encode, exchanges, hostForm]
theorem rdres (base : Byte) : Statement (.rdres base) := fun _ _ => ⟨rfl, rfl⟩
theorem cfgsingle : Statement .cfgsingle := fun _ _ => ⟨rfl, rfl⟩
theorem cfgdual : Statement .cfgdual := fun _ _ => ⟨rfl, rfl⟩
theorem ispresent : Statement .ispresent := fun _ _ => ⟨rfl, rfl⟩
theorem isdual : Statement .isdual := fun _ _ => ⟨rfl, rfl⟩

end Sys2Proof.Laws.WordShape
end

