-- ==== Sys2Proof/Laws/Silent.lean ====
section
/-!
SUPPORT. What verify rounds do against a chip that answers one byte for ever (42_bulk_config.md R96 (a)): the remote and
`CFG` stay, and a round succeeds only where every byte compared is that byte.
-/

namespace Sys2Proof.Laws

open Sys2Proof.Machine Sys2Proof.Safety

/-- The comparing loop: the remote and `CFG` stay, and `present` can end true only if every byte compared is `z`. -/
theorem verify_payload_silent (tx : Nat → Byte) {z : Byte} (k : Nat) {s : State} (h : s.remote = .silent z) :
    (procPayload tx State.verifyByte k s).remote = .silent z ∧ (procPayload tx State.verifyByte k s).cfg = s.cfg ∧
    ((procPayload tx State.verifyByte k s).present = true →
      s.present = true ∧ ∀ i, i < k → cfgByte s.cfg (s.idx + i) = z) := by
  induction k generalizing s with
  | zero => exact ⟨h, rfl, fun hp => ⟨hp, fun i hi => absurd hi (Nat.not_lt_zero i)⟩⟩
  | succ k ih =>
    obtain ⟨h1, h2, h3⟩ := ih (s := { (s.exchange (tx s.idx)).verifyByte with idx := s.idx + 1 })
      (by simp [State.verifyByte, State.exchange, h, Remote.exchange])
    refine ⟨h1, h2, fun hp => ?_⟩
    obtain ⟨g1, g2⟩ := h3 hp
    have hz : z = cfgByte s.cfg s.idx ∧ s.present = true := by
      simpa [State.verifyByte, State.exchange, h, Remote.exchange] using g1
    refine ⟨hz.2, fun i hi => ?_⟩
    cases i with
    | zero => exact hz.1.symm
    | succ i =>
      have := g2 i (by omega)
      rwa [show s.idx + (i + 1) = s.idx + 1 + i by omega]

/-- The writing and the empty payload: the remote and `CFG` stay. -/
theorem payload_silent (tx : Nat → Byte) {z : Byte} (k : Nat) {s : State} (h : s.remote = .silent z) :
    (procPayload tx id k s).remote = .silent z ∧ (procPayload tx id k s).cfg = s.cfg := by
  induction k generalizing s with
  | zero => exact ⟨h, rfl⟩
  | succ k ih =>
    exact ih (s := { id (s.exchange (tx s.idx)) with idx := s.idx + 1 }) (by simp [State.exchange, h, Remote.exchange])

/-- A frame that compares nothing: the remote and `CFG` stay. -/
theorem frame_silent (cmd : Byte) (n : Nat) (tx : Nat → Byte) {z : Byte} {s : State} (h : s.remote = .silent z) :
    (procFrame cmd n tx id s).remote = .silent z ∧ (procFrame cmd n tx id s).cfg = s.cfg := by
  simp only [procFrame, procEnd]
  exact payload_silent tx n (by simp [procBegin, State.exchange, h, Remote.exchange, Remote.onCsAssert])

/-- One verify frame. -/
theorem verify_silent {z : Byte} {s : State} (h : s.remote = .silent z) :
    (procVerify s).remote = .silent z ∧ (procVerify s).cfg = s.cfg ∧
    ((procVerify s).present = true → ∀ i, i < 17 → cfgByte s.cfg i = z) := by
  simp only [procVerify, procFrame, procEnd]
  generalize hq : ({ (procBegin s.verifyStart).exchange 0x40 with idx := 0 } : State) = q
  have hr : q.remote = .silent z := by
    subst hq
    simp [procBegin, State.exchange, State.verifyStart, h, Remote.exchange, Remote.onCsAssert]
  have hc : q.cfg = s.cfg := by subst hq; rfl
  have hx : q.idx = 0 := by subst hq; rfl
  obtain ⟨h1, h2, h3⟩ := verify_payload_silent (fun _ => s.dummyTx) 17 hr
  exact ⟨h1, h2.trans hc, fun hp i hi => by simpa [hc, hx] using (h3 hp).2 i hi⟩

/-- One round. -/
theorem round_silent {z : Byte} {s : State} (h : s.remote = .silent z) :
    (procRound s).remote = .silent z ∧ (procRound s).cfg = s.cfg := by
  obtain ⟨h1, h2, -⟩ := verify_silent h
  unfold procRound
  generalize procVerify s = q at h1 h2
  split <;> exact ⟨h1, h2⟩

/-- Any number of rounds. -/
theorem rounds_silent {z : Byte} (n : Nat) {s : State} (h : s.remote = .silent z) :
    (procRounds n s).remote = .silent z ∧ (procRounds n s).cfg = s.cfg := by
  induction n generalizing s with
  | zero => exact ⟨h, rfl⟩
  | succ n ih =>
    obtain ⟨h1, h2⟩ := round_silent h
    obtain ⟨g1, g2⟩ := ih h1
    exact ⟨g1, g2.trans h2⟩

/-- The opening of a workflow leaves its preset in `CFG`. -/
theorem opening_silent (m : Channels) {z : Byte} {s : State} (h : s.remote = .silent z) :
    (procOpening m s).remote = .silent z ∧ (procOpening m s).cfg = s.preset m := by
  simp only [procOpening]
  generalize hq : ({ s.loseRet with wsel := m, cfg := s.preset m, op := 0x30 } : State) = q
  have hr : q.remote = .silent z := by subst hq; exact h
  have hc : q.cfg = s.preset m := by subst hq; rfl
  obtain ⟨h1, h2⟩ := frame_silent 0x30 0 (fun _ => s.dummyTx) hr
  generalize procFrame 0x30 0 (fun _ => s.dummyTx) id q = f at h1 h2
  obtain ⟨g1, g2⟩ := frame_silent 0x80 17 (cfgByte (s.preset m)) (s := f.emit (.wait Config.tSettleReset)) h1
  exact ⟨g1, g2.trans (h2.trans hc)⟩

end Sys2Proof.Laws
end

