-- ==== Sys2Proof/Laws/Step.lean ====
section
/-!
SUPPORT. What a step, an Issue, a wire frame and a transition of the sequencer can do: one inversion lemma each.
-/

namespace Sys2Proof.Laws

open Sys2Proof.Machine Sys2Proof.Safety

theorem isIdle_iff {s : State} : s.isIdle = true ↔ s.phase = .idle ∧ s.wstep = .wNone := by
  simp [State.isIdle]

theorem busy_iff {s : State} : s.busy = true ↔ s.isIdle = false := by simp [State.busy]

/-- A frame is called for only between two frames, by the step that runs it. -/
theorem workflowFrame_cases {s : State} {i : Instr} (h : workflowFrame s = some i) :
    s.phase = .idle ∧
    ((s.wstep = .wReset ∧ i = .powerReset) ∨ (s.wstep = .wWrite ∧ i = .writeConfig s.cfg.toList) ∨
     (s.wstep = .wVerify ∧ i = .readConfig) ∨ (s.wstep = .wInit ∧ i = .initStart)) := by
  unfold workflowFrame at h
  split at h
  · next hp =>
    refine ⟨hp, ?_⟩
    split at h <;> simp_all
  · simp at h

/-- The state a step works on: the one before it, with the host event of this step taken. -/
def heard (s : State) : State := { s with inputs := s.inputs.tail }

/-- Everything a step can do. -/
theorem step_cases {s t : State} (h : step s = .next t) :
    (∃ rest, s.inputs = .reset :: rest ∧ t = (heard s).engineReset) ∨
    (∃ w rest, s.inputs = .issue w :: rest ∧ t = heard s) ∨
    (∃ w rest i, s.inputs = .issue w :: rest ∧ (heard s).isIdle = true ∧ decode w = .ok i ∧
      exec i (heard s) = .next t) ∨
    (∃ i, workflowFrame (heard s) = some i ∧ exec i (heard s) = .next t) ∨
    (workflowFrame (heard s) = none ∧ advance (heard s) = .next t) := by
  have internal : (match fetchInternal (heard s) with
      | .run i s' => exec i s'
      | .advance s' => advance s'
      | .stay s' => .next s') = .next t →
      (∃ i, workflowFrame (heard s) = some i ∧ exec i (heard s) = .next t) ∨
      (workflowFrame (heard s) = none ∧ advance (heard s) = .next t) := by
    intro h
    cases hw : workflowFrame (heard s) <;> simp_all [fetchInternal]
  unfold step fetch at h
  rcases hin : s.inputs with _ | ⟨e, rest⟩
  · have hs : heard s = s := by
      cases s
      cases hin
      rfl
    rw [hin] at h
    rw [← hs] at h
    exact .inr (.inr (.inr (internal h)))
  · have hs : ({ s with inputs := rest } : State) = heard s := by
      cases s
      cases hin
      rfl
    rw [hin] at h
    cases e with
    | quiet =>
      rw [← hs] at internal ⊢
      exact .inr (.inr (.inr (internal h)))
    | reset =>
      rw [← hs]
      exact .inl ⟨rest, rfl, by simpa using h.symm⟩
    | issue w =>
      simp only [fetchPort, hs] at h
      by_cases hb : (heard s).busy = true
      · simp only [hb, if_true] at h
        exact .inr (.inl ⟨w, rest, rfl, by simpa using h.symm⟩)
      · simp only [hb] at h
        cases hd : decode w with
        | ok i =>
          simp only [hd] at h
          refine .inr (.inr (.inl ⟨w, rest, i, rfl, ?_, hd, h⟩))
          simpa [State.busy] using hb
        | rejected r =>
          simp only [hd] at h
          exact .inr (.inl ⟨w, rest, rfl, by simpa using h.symm⟩)

/-- An Issue of a primitive is turned away, or begins its frame in an idle engine. -/
theorem issuePrim_cases {p : Prim} {latch : State → State} {s t : State} (h : issuePrim p latch s = .next t) :
    (s.busy = true ∧ t = s) ∨ (s.isIdle = true ∧ t = (latch s.loseRet).startFrame p) := by
  unfold issuePrim at h
  split at h
  · next hb => exact .inl ⟨hb, by simpa using h.symm⟩
  · next hb => exact .inr ⟨by simpa [State.busy] using hb, by simpa using h.symm⟩

/-- A wire frame begins in an idle engine, or where the workflow step calls for it, or is turned away. -/
theorem runFrame_cases {i : Instr} {p : Prim} {latch : State → State} {s t : State}
    (h : runFrame i p latch s = .next t) :
    (s.isIdle = true ∧ t = (latch s.loseRet).startFrame p) ∨
    (workflowFrame s = some i ∧ t = (latch s).startFrame p) ∨ t = s := by
  unfold runFrame at h
  split at h
  · next hb => exact .inl ⟨hb, by simpa using h.symm⟩
  · split at h
    · next hw => exact .inr (.inl ⟨hw, by simpa using h.symm⟩)
    · exact .inr (.inr (by simpa using h.symm))

theorem issueWorkflow_cases {m : Channels} {s t : State} (h : issueWorkflow m s = .next t) :
    (s.busy = true ∧ t = s) ∨
    (s.isIdle = true ∧
      t = { s.loseRet with wsel := m, cfg := s.preset m, op := Config.opcPowerReset, wstep := .wReset }) := by
  unfold issueWorkflow at h
  split at h
  · next hb => exact .inl ⟨hb, by simpa using h.symm⟩
  · next hb => exact .inr ⟨by simpa [State.busy] using hb, by simpa using h.symm⟩

theorem issueAccessor_cases {v : RetVal} {s t : State} (h : issueAccessor v s = .next t) :
    (s.busy = true ∧ t = s) ∨ (s.isIdle = true ∧ t = s.reply v) := by
  unfold issueAccessor at h
  split at h
  · next hb => exact .inl ⟨hb, by simpa using h.symm⟩
  · next hb => exact .inr ⟨by simpa [State.busy] using hb, by simpa using h.symm⟩

/-- The latches a primitive's frame begins with, as a change of the state before it: the operand latches, `ACC` for a
result read, and `present`, which only a verify sets. -/
def Latched (p : Prim) (s l : State) : Prop :=
  ∃ op addr val base cfg acc present ret draws,
    l = { s with op := op, addr := addr, val := val, base := base, cfg := cfg, acc := acc, present := present,
                 ret := ret, draws := draws } ∧
    (present = s.present ∨ (p = .vfycfg ∧ present = true))

/-- Everything `exec` can do: turn the instruction away, begin a frame in an idle engine, begin the frame the workflow
step calls for, accept a workflow, or answer an accessor. -/
theorem exec_cases {i : Instr} {s t : State} (h : exec i s = .next t) :
    t = s ∨
    (∃ p l, s.isIdle = true ∧ Latched p s l ∧ t = l.startFrame p) ∨
    (workflowFrame s = some i ∧
      ((s.wstep = .wReset ∧ t = (s.latchOp Config.opcPowerReset).startFrame .sendop) ∨
       (s.wstep = .wWrite ∧ t = s.startFrame .wrcfg) ∨
       (s.wstep = .wVerify ∧ t = s.verifyStart.startFrame .vfycfg) ∨
       (s.wstep = .wInit ∧ t = (s.latchOp Config.opcInit).startFrame .sendop))) ∨
    (∃ m, s.isIdle = true ∧
      t = { s.loseRet with wsel := m, cfg := s.preset m, op := Config.opcPowerReset, wstep := .wReset }) ∨
    (∃ v, s.isIdle = true ∧ t = s.reply v) := by
  have prim : ∀ (p : Prim) (f : State → State), Latched p s (f s.loseRet) → issuePrim p f s = .next t →
      t = s ∨ (∃ p l, s.isIdle = true ∧ Latched p s l ∧ t = l.startFrame p) := by
    intro p f hl hh
    rcases issuePrim_cases hh with ⟨-, rfl⟩ | ⟨hi, rfl⟩
    · exact .inl rfl
    · exact .inr ⟨p, f s.loseRet, hi, hl, rfl⟩
  have wire : ∀ (p : Prim) (f : State → State), Latched p s (f s.loseRet) → runFrame i p f s = .next t →
      t = s ∨ (∃ p l, s.isIdle = true ∧ Latched p s l ∧ t = l.startFrame p) ∨
      (workflowFrame s = some i ∧ t = (f s).startFrame p) := by
    intro p f hl hh
    rcases runFrame_cases hh with ⟨hi, rfl⟩ | ⟨hw, rfl⟩ | rfl
    · exact .inr (.inl ⟨p, f s.loseRet, hi, hl, rfl⟩)
    · exact .inr (.inr ⟨hw, rfl⟩)
    · exact .inl rfl
  cases i with
  | powerReset =>
    rcases wire _ _ ⟨_, _, _, _, _, _, _, _, _, rfl, .inl rfl⟩ h with h | h | ⟨hw, h⟩
    · exact .inl h
    · exact .inr (.inl h)
    · obtain ⟨-, hw' | hw' | hw' | hw'⟩ := workflowFrame_cases hw <;> simp_all
  | initStart =>
    rcases wire _ _ ⟨_, _, _, _, _, _, _, _, _, rfl, .inl rfl⟩ h with h | h | ⟨hw, h⟩
    · exact .inl h
    · exact .inr (.inl h)
    · obtain ⟨-, hw' | hw' | hw' | hw'⟩ := workflowFrame_cases hw <;> simp_all
  | writeReg adr val =>
    rcases wire _ (fun u => (u.latchAddr (adr.setWidth 8)).latchVal val) ⟨_, _, _, _, _, _, _, _, _, rfl, .inl rfl⟩ h with h | h | ⟨hw, h⟩
    · exact .inl h
    · exact .inr (.inl h)
    · obtain ⟨-, hw' | hw' | hw' | hw'⟩ := workflowFrame_cases hw <;> simp_all
  | readReg adr =>
    rcases wire _ _ ⟨_, _, _, _, _, _, _, _, _, rfl, .inl rfl⟩ h with h | h | ⟨hw, h⟩
    · exact .inl h
    · exact .inr (.inl h)
    · obtain ⟨-, hw' | hw' | hw' | hw'⟩ := workflowFrame_cases hw <;> simp_all
  | writeConfig cfg =>
    simp only [exec, execWriteConfig] at h
    split at h
    · next c hc =>
      rcases wire _ _ ⟨_, _, _, _, _, _, _, _, _, rfl, .inl rfl⟩ h with h | h | ⟨hw, h⟩
      · exact .inl h
      · exact .inr (.inl h)
      · obtain ⟨-, hw' | hw' | hw' | hw'⟩ := workflowFrame_cases hw
        · simp_all
        · obtain ⟨hw1, hw2⟩ := hw'
          have : c = s.cfg := by
            rw [show cfg = s.cfg.toList by simpa using hw2, cfgOfList_toList] at hc
            simpa using hc.symm
          subst this
          exact .inr (.inr (.inl ⟨hw, .inr (.inl ⟨hw1, h⟩)⟩))
        · simp_all
        · simp_all
    · exact .inl (by simpa using h.symm)
  | readConfig =>
    rcases wire _ _ ⟨_, _, _, _, _, _, _, _, _, rfl, .inr ⟨rfl, rfl⟩⟩ h with h | h | ⟨hw, h⟩
    · exact .inl h
    · exact .inr (.inl h)
    · obtain ⟨-, hw' | hw' | hw' | hw'⟩ := workflowFrame_cases hw <;> simp_all
  | readResult adr =>
    rcases wire _ (fun u => (u.latchBase (adr.setWidth 8)).clearAcc) ⟨_, _, _, _, _, _, _, _, _, rfl, .inl rfl⟩ h with h | h | ⟨hw, h⟩
    · exact .inl h
    · exact .inr (.inl h)
    · obtain ⟨-, hw' | hw' | hw' | hw'⟩ := workflowFrame_cases hw <;> simp_all
  | sendop op => exact (prim _ _ ⟨_, _, _, _, _, _, _, _, _, rfl, .inl rfl⟩ h).imp_right .inl
  | wrreg addr val => exact (prim _ (fun u => (u.latchAddr addr).latchVal val) ⟨_, _, _, _, _, _, _, _, _, rfl, .inl rfl⟩ h).imp_right .inl
  | rdreg addr => exact (prim _ _ ⟨_, _, _, _, _, _, _, _, _, rfl, .inl rfl⟩ h).imp_right .inl
  | wrcfg cfg =>
    simp only [exec, execWrcfg] at h
    split at h
    · exact (prim _ _ ⟨_, _, _, _, _, _, _, _, _, rfl, .inl rfl⟩ h).imp_right .inl
    · exact .inl (by simpa using h.symm)
  | vfycfg cfg =>
    simp only [exec, execVfycfg] at h
    split at h
    · next c hc =>
      exact (prim _ (fun u => (u.latchCfg c).verifyStart) ⟨_, _, _, _, _, _, _, _, _, rfl, .inr ⟨rfl, rfl⟩⟩ h).imp_right .inl
    · exact .inl (by simpa using h.symm)
  | rdres base => exact (prim _ (fun u => (u.latchBase base).clearAcc) ⟨_, _, _, _, _, _, _, _, _, rfl, .inl rfl⟩ h).imp_right .inl
  | cfgsingle =>
    rcases issueWorkflow_cases h with ⟨-, rfl⟩ | ⟨hi, rfl⟩
    · exact .inl rfl
    · exact .inr (.inr (.inr (.inl ⟨.single, hi, rfl⟩)))
  | cfgdual =>
    rcases issueWorkflow_cases h with ⟨-, rfl⟩ | ⟨hi, rfl⟩
    · exact .inl rfl
    · exact .inr (.inr (.inr (.inl ⟨.dual, hi, rfl⟩)))
  | ispresent =>
    rcases issueAccessor_cases h with ⟨-, rfl⟩ | ⟨hi, rfl⟩
    · exact .inl rfl
    · exact .inr (.inr (.inr (.inr ⟨_, hi, rfl⟩)))
  | isdual =>
    rcases issueAccessor_cases h with ⟨-, rfl⟩ | ⟨hi, rfl⟩
    · exact .inl rfl
    · exact .inr (.inr (.inr (.inr ⟨_, hi, rfl⟩)))

/-- Everything one transition of the sequencer can do: the rows of R74 and R111. -/
theorem advance_cases {s t : State} (h : advance s = .next t) :
    (s.phase = .idle ∧ s.wstep = .wNone ∧ t = s) ∨
    (∃ d, s.phase = .idle ∧ s.wstep.wait = some d ∧ t = s.enterWait d) ∨
    (s.phase = .idle ∧ s.wstep = .wRetryDiag ∧ t = { s.report .retryRound with wstep := .wBackoff }) ∨
    (s.phase = .idle ∧ s.wstep = .wFinish ∧ t = s.finish) ∨
    (∃ w, s.phase = .waiting ∧ s.wstep.afterWait = some w ∧ t = { s with phase := .idle, wstep := w }) ∨
    (∃ p, s.phase = .fCs ∧ s.cur = some p ∧ t = s.openSession) ∨
    (∃ p, s.phase = .fCmd ∧ s.cur = some p ∧ t = s.sendCommand p) ∨
    (∃ p, s.phase = .fData ∧ s.cur = some p ∧ s.idx < p.payloadLen ∧ t = s.payloadByte p) ∨
    (∃ p, s.phase = .fData ∧ s.cur = some p ∧ s.idx = p.payloadLen ∧ t = s.closeSession) ∨
    (∃ p, s.phase = .fClose ∧ s.cur = some p ∧ s.wstep = .wNone ∧ t = s.releaseCs.reply (s.result p)) ∨
    (∃ p w, s.phase = .fClose ∧ s.cur = some p ∧ s.wstep ≠ .wNone ∧ s.wstep.afterFrame s.present = some w ∧
      t = { s.releaseCs with wstep := w }) := by
  unfold advance at h
  cases hp : s.phase <;> simp only [hp] at h
  · cases hw : s.wstep <;> simp_all [WStep.wait]
  · cases hc : s.cur <;> simp_all
  · cases hc : s.cur <;> simp_all
  · cases hc : s.cur <;> simp only [hc] at h
    · simp at h
    · split at h
      · simp_all
      · split at h <;> simp_all
  · cases hc : s.cur <;> simp only [hc, endFrame] at h
    · simp at h
    · split at h
      · simp_all
      · split at h <;> simp_all
  · cases hw : s.wstep.afterWait <;> simp_all

end Sys2Proof.Laws
end

