-- ==== Sys2Proof/Tests/Slice0.lean ====
section
/-!
SUPPORT. The model's own tests: words written out from the spec's encodings, ill-formed terms, single steps whose results
are those of 95_test_vectors.md, and a witness for the hypotheses of each statement.
-/

namespace Sys2Proof.Tests

open Sys2Proof.Machine Sys2Proof.Safety

/-! ### Helpers -/

/-- The next state of an outcome, if it is one. -/
def nextOf : Host.Outcome State Fault Refusal → Option State
  | .next s => some s
  | .fault _ => none
  | .refused _ => none

/-- Stand-in preset TS of 95_test_vectors.md section 0. -/
def ts : Cfg := ⟨#[0x10, 0x11, 0x12, 0x13, 0x14, 0x15, 0x16, 0x17, 0x18, 0x19, 0x1A, 0x1B, 0x1C, 0x1D, 0x1E, 0x1F, 0x20], rfl⟩

/-- Stand-in preset TD of 95_test_vectors.md section 0. -/
def td : Cfg := ⟨#[0xD0, 0xD1, 0xD2, 0xD3, 0xD4, 0xD5, 0xD6, 0xD7, 0xD8, 0xD9, 0xDA, 0xDB, 0xDC, 0xDD, 0xDE, 0xDF, 0xE0], rfl⟩

/-- Reset, with the stand-in presets and a remote. -/
def start (r : Remote) : State := { State.reset with presetSingle := ts, presetDual := td, remote := r }

/-- Inside a frame of `p`, the command byte exchanged and `i` payload bytes after it. -/
def inData (p : Prim) (i : Nat) (r : Remote) : State :=
  { start r with cs := .low, session := .opened, cur := some p, phase := .fData, idx := i }

/-- Between two frames or waits of a CFGSINGLE. -/
def atStep (w : WStep) : State := { start (.oracle []) with wstep := w, cfg := ts, op := 0x30 }

def zeros : List Byte := List.replicate 17 0x00

/-! ### Decoding: one word per row, written out from R51 and R60 -/

theorem test_decode_power_reset : decode (.wire [0b00110000]) = .ok .powerReset := by decide
theorem test_decode_init_start : decode (.wire [0b00011000]) = .ok .initStart := by decide
theorem test_decode_write_reg : decode (.wire [0b10010000, 0xA7]) = .ok (.writeReg 16 0xA7) := by decide
theorem test_decode_read_reg : decode (.wire [0b01011111, 0x00]) = .ok (.readReg 31) := by decide
theorem test_decode_write_config :
    decode (.wire (0b10000000 :: ts.toList)) = .ok (.writeConfig ts.toList) := by decide
theorem test_decode_read_config : decode (.wire (0b01000000 :: zeros)) = .ok .readConfig := by decide
theorem test_decode_read_result : decode (.wire [0b01110111, 0, 0, 0]) = .ok (.readResult 23) := by decide
theorem test_decode_sendop : decode (.host 0b0001 [0xE8]) = .ok (.sendop 0xE8) := by decide
theorem test_decode_wrreg : decode (.host 0b0010 [0x25, 0x07]) = .ok (.wrreg 0x25 0x07) := by decide
theorem test_decode_rdreg : decode (.host 0b0011 [0x2A]) = .ok (.rdreg 0x2A) := by decide
theorem test_decode_wrcfg : decode (.host 0b0100 ts.toList) = .ok (.wrcfg ts.toList) := by decide
theorem test_decode_vfycfg : decode (.host 0b0101 ts.toList) = .ok (.vfycfg ts.toList) := by decide
theorem test_decode_rdres : decode (.host 0b0110 [0x17]) = .ok (.rdres 0x17) := by decide
theorem test_decode_cfgsingle : decode (.host 0b0111 []) = .ok .cfgsingle := by decide
theorem test_decode_cfgdual : decode (.host 0b1000 []) = .ok .cfgdual := by decide
theorem test_decode_ispresent : decode (.host 0b1001 []) = .ok .ispresent := by decide
theorem test_decode_isdual : decode (.host 0b1010 []) = .ok .isdual := by decide

/-- R59: `0x80` followed by 5 bytes is no frame of the engine. -/
theorem test_decode_payload_count :
    decode (.wire [0x80, 1, 2, 3, 4, 5]) = .rejected (.payloadCount 0x80 5) := by decide
/-- V4: `0xE8` is Unknown. -/
theorem test_decode_unknown_command :
    decode (.wire [0xE8, 0, 0, 0]) = .rejected (.unknownCommand 0xE8) := by decide
/-- V8: the undefined host codes at both ends of their range. -/
theorem test_decode_undefined_host_codes :
    decode (.host 0x0 []) = .rejected (.unknownHostCode 0x0) ∧
    decode (.host 0xB []) = .rejected (.unknownHostCode 0xB) ∧
    decode (.host 0xF [0x01]) = .rejected (.unknownHostCode 0xF) := by decide
/-- R60: an operand too many is no operand form of WRREG. -/
theorem test_decode_operand_count :
    decode (.host 0x2 [1, 2, 3]) = .rejected (.operandCount 0x2 3) := by decide
/-- The opcode table's numbering: a command byte, a register row with its payload zero, a host code. -/
theorem test_table_words :
    decodeTableWord 8 0x18 = some .initStart ∧ decodeTableWord 8 0x85 = some (.writeReg 5 0) ∧
    decodeTableWord 8 0x0A = some .isdual ∧ decodeTableWord 8 0xA0 = none := by decide
/-- The step after `withFetchWord` begins the frame: V10's first event. -/
theorem test_fetch_word_runs :
    (nextOf (step (State.reset.withFetchWord 8 0x30))).map (fun t => (t.bus, t.op, t.phase)) =
      some ([.csAssert], 0x30, .fCs) := by decide

/-! ### Ill-formed terms: a register map of 16 or 18 bytes -/

theorem test_ill_formed_write_config : (Instr.writeConfig (0x00 :: zeros)).wellFormed = false := by decide
theorem test_ill_formed_wrcfg : (Instr.wrcfg (List.replicate 16 0x00)).wellFormed = false := by decide
theorem test_ill_formed_vfycfg : (Instr.vfycfg []).wellFormed = false := by decide

/-! ### Single steps -/

/-- V10: POWER_RESET is accepted by an idle engine and asserts chip-select first. -/
theorem test_sendop_begins_frame :
    (nextOf (exec (.sendop 0x30) State.reset)).map (fun t => (t.bus, t.cs, t.session, t.cur)) =
      some ([.csAssert], .low, .closed, some .sendop) := by decide
/-- D13: SENDOP sends any byte as it is. -/
theorem test_sendop_sends_any_byte :
    (nextOf (step { start (.oracle [0x99]) with
      cs := .low, session := .opened, cur := some .sendop, phase := .fCmd, op := 0xE8 })).map
        (fun t => (t.bus, t.rdata)) = some ([.xfer 0xE8 0x99], 0x99) := by decide
/-- V2, V16: address 37 goes out as `0x85`. -/
theorem test_wrreg_masks_address :
    (nextOf (step { start (.oracle [0x00]) with
      cs := .low, session := .opened, cur := some .wrreg, phase := .fCmd, addr := 37 })).map
        (·.bus) = some [.xfer 0x85 0x00] := by decide
/-- R82: the payload byte is VAL. -/
theorem test_wrreg_sends_val :
    (nextOf (step { inData .wrreg 0 (.oracle [0x11]) with val := 0xA7 })).map
      (fun t => (t.bus, t.idx)) = some ([.xfer 0xA7 0x11], 1) := by decide
/-- R19: the byte read is zero-extended, not sign-extended. -/
theorem test_rdreg_zero_extends :
    (nextOf (step { start (.oracle []) with cs := .low, cur := some .rdreg, phase := .fClose, rdata := 0xFF })).map
      (fun t => (t.ret, t.rets, t.bus, t.cs, t.cur)) =
        some (0x000000FF, [.byte 0xFF], [.csDeassert], .high, none) := by decide
/-- R83's example: `0x2A` goes out as `0x4A`. -/
theorem test_rdreg_masks_address :
    (nextOf (step { start (.oracle [0x00]) with
      cs := .low, session := .opened, cur := some .rdreg, phase := .fCmd, addr := 0x2A })).map
        (·.bus) = some [.xfer 0x4A 0x00] := by decide
/-- V7: the sixth payload byte of `WRCFG TS` is `0x15`. -/
theorem test_wrcfg_payload_in_order :
    (nextOf (step { inData .wrcfg 5 (.oracle [0x00]) with cfg := ts })).map
      (fun t => (t.bus, t.idx)) = some ([.xfer 0x15 0x00], 6) := by decide
/-- R74: after 17 payload bytes the session is closed, not an eighteenth byte sent. -/
theorem test_wrcfg_closes_after_seventeen :
    (nextOf (step { inData .wrcfg 17 (.oracle [0x00]) with cfg := ts })).map
      (fun t => (t.bus, t.phase, t.session, t.cs)) = some ([.sessionClose], .fClose, .closed, .low) := by decide
/-- A mismatch at index 3: expected `0x13`, received `0x93`. -/
theorem test_vfycfg_mismatch :
    (nextOf (step { inData .vfycfg 3 (.oracle [0x93]) with cfg := ts, present := true })).map
      (fun t => (t.present, t.diag)) = some (false, [.mismatch 3 0x13 0x93]) := by decide
/-- R95: a later match does not set `present` again. -/
theorem test_vfycfg_stays_false :
    (nextOf (step { inData .vfycfg 4 (.oracle [0x14]) with cfg := ts, present := false })).map
      (fun t => (t.present, t.diag)) = some (false, []) := by decide
/-- R101: the third byte of `12 34 56`. -/
theorem test_rdres_accumulates :
    (nextOf (step { inData .rdres 2 (.oracle [0x56]) with acc := 0x001234 })).map
      (·.acc) = some 0x123456 := by decide
/-- V3: base 128 goes out as `0xE0`, base 40 as `0x68`. -/
theorem test_rdres_base_not_masked :
    ({ State.reset with base := 128 } : State).cmdByte .rdres = 0xE0 ∧
    ({ State.reset with base := 40 } : State).cmdByte .rdres = 0x68 := by decide
/-- R106, R111: the Issue copies the preset and puts nothing on the bus. -/
theorem test_cfgsingle_issue :
    (nextOf (exec .cfgsingle (start (.oracle [])))).map (fun t => (t.cfg, t.op, t.wstep, t.bus)) =
      some (ts, 0x30, .wReset, []) := by decide
/-- R108: the branch out of `W_VERIFY` tests `present`. -/
theorem test_cfgsingle_branch :
    (nextOf (step { atStep .wVerify with cs := .low, cur := some .vfycfg, phase := .fClose, present := false })).map
      (·.wstep) = some .wRetryDiag ∧
    (nextOf (step { atStep .wVerify with cs := .low, cur := some .vfycfg, phase := .fClose, present := true })).map
      (·.wstep) = some .wInit := by decide
/-- R110: the last step of a CFGDUAL. -/
theorem test_cfgdual_finish :
    (nextOf (step { atStep .wFinish with wsel := .dual, present := true })).map
      (fun t => (t.mode, t.ret, t.rets, t.wstep)) = some (.dual, 1, [.bool true], .wNone) := by decide
/-- R130: the backoff is one second, the reset settle 5 ms. -/
theorem test_cfgdual_waits :
    (nextOf (step (atStep .wBackoff))).map (fun t => (t.bus, t.phase)) = some ([.wait 1000000], .waiting) ∧
    (nextOf (step (atStep .wResetSettle))).map (·.bus) = some [.wait 5000] := by decide
/-- R120: `RET` is 1, nothing on the bus. -/
theorem test_ispresent_true :
    (nextOf (exec .ispresent { State.reset with present := true })).map (fun t => (t.ret, t.rets, t.bus)) =
      some (1, [.bool true], []) := by decide
/-- V7: `Issue(ISPRESENT)` inside a `WRCFG TS` frame is turned away. -/
theorem test_ispresent_busy :
    (nextOf (step { inData .wrcfg 5 (.oracle []) with inputs := [.issue (.host 0x9 [])] })).map
      (fun t => (t.rets, t.bus, t.idx, t.phase, t.inputs)) = some ([], [], 5, .fData, []) := by decide
/-- R121: `false` for Single. -/
theorem test_isdual_single :
    (nextOf (exec .isdual { State.reset with mode := .single, ret := 7 })).map (fun t => (t.ret, t.rets)) =
      some (0, [.bool false]) := by decide
/-- R121: `false` before any workflow, `true` for Dual. -/
theorem test_isdual_unset_and_dual :
    (nextOf (exec .isdual State.reset)).map (·.ret) = some 0 ∧
    (nextOf (exec .isdual { State.reset with mode := .dual })).map (·.ret) = some 1 := by decide
/-- R111: between two frames the step runs the frame the workflow calls for; no other frame may begin there. -/
theorem test_wire_power_reset :
    (nextOf (step (atStep .wReset))).map (fun t => (t.bus, t.cur)) = some ([.csAssert], some .sendop) ∧
    (nextOf (exec .powerReset (atStep .wVerify))).map (·.bus) = some [] := by decide
/-- R111 `W_INIT`: `OP <- 0x18`. -/
theorem test_wire_init_start :
    (nextOf (step (atStep .wInit))).map (fun t => (t.op, t.cur)) = some (0x18, some .sendop) := by decide
/-- R111 `W_VERIFY`: `present <- true` when the frame begins. -/
theorem test_wire_read_config :
    (nextOf (step (atStep .wVerify))).map (fun t => (t.present, t.cur, t.cfg)) =
      some (true, some .vfycfg, ts) := by decide
/-- R82, R51: the address field and the payload of `85 A7` reach ADDR and VAL. -/
theorem test_wire_write_reg :
    (nextOf (exec (.writeReg 5 0xA7) State.reset)).map (fun t => (t.addr, t.val, t.cur)) =
      some (5, 0xA7, some .wrreg) := by decide
theorem test_wire_read_reg :
    (nextOf (exec (.readReg 31) State.reset)).map (fun t => (t.addr, t.cur)) = some (31, some .rdreg) := by decide
theorem test_wire_write_config :
    (nextOf (exec (.writeConfig td.toList) State.reset)).map (fun t => (t.cfg, t.cur)) =
      some (td, some .wrcfg) := by decide
theorem test_wire_read_result :
    (nextOf (exec (.readResult 11) { State.reset with acc := 5 })).map (fun t => (t.base, t.acc, t.cur)) =
      some (11, 0, some .rdres) := by decide
/-- V8: an undefined host code changes nothing in an idle engine. -/
theorem test_undefined_host_code :
    (nextOf (step { State.reset with inputs := [.issue (.host 0xC [])] })).map
      (fun t => (t.rets, t.bus, t.phase, t.wstep)) = some ([], [], .idle, .wNone) := by decide
/-- R142: reset inside a frame releases chip-select without a bus event or a `Ret`. -/
theorem test_reset_in_frame :
    (nextOf (step { inData .wrcfg 5 (.oracle []) with inputs := [.reset], present := true, mode := .dual })).map
      (fun t => (t.cs, t.phase, t.mode, t.bus, t.rets)) = some (.high, .idle, .unset, [], []) := by decide
/-- R44: the pointer wraps modulo 32, and a byte written is the byte read. -/
theorem test_reference_remote :
    (RefTdc.exchange 0xA5 ⟨[], [], .wr, 31⟩).2 = ⟨[(31, 0xA5)], [], .wr, 0⟩ ∧
    (RefTdc.exchange 0x00 ⟨[(31, 0xA5)], [], .rd, 31⟩).1 = 0xA5 := by decide

/-! ### Witnesses: states and operands that meet the hypotheses of each statement -/

/-- EveryCommandByteIsClassified, ResultBaseIsNotMasked: a base on each side of bit 7. -/
theorem witness_result_bases : (0x7F : Byte).getLsbD 7 = false ∧ (0x80 : Byte).getLsbD 7 = true := by decide
/-- CommandByteRoundTrips: the largest base below 32; a byte of one kind. -/
theorem witness_round_trips : (31 : Byte).toNat < 32 ∧ decodeCmd 0x30 = .powerReset := by decide
/-- DecodeOfEncodeIsTheInstruction. -/
theorem witness_decode_of_encode : (Instr.vfycfg td.toList).wellFormed = true := by decide
/-- HostCodesAreTheTable, UndefinedHostCodeIsTurnedAway: 0 and 11 name nothing, 10 is ISDUAL. -/
theorem witness_host_codes :
    (0 : Hcmd) = 0 ∧ 11 ≤ (0xB : Hcmd).toNat ∧ ¬ 11 ≤ (0xA : Hcmd).toNat ∧
    decode (.host 0xA []) = .ok .isdual ∧
    ({ State.reset with inputs := [.issue (.host 0xB [])] } : State).inputs = .issue (.host 0xB []) :: [] := by decide
/-- BytesGoMostSignificantBitFirst: a step that opens a session; its whole runs start in a quiet state
(witness_quiet). -/
theorem witness_wire_bits :
    (nextOf (step ((start (.oracle [])).startFrame .rdreg))).map (·.bus) =
      some (((start (.oracle [])).startFrame .rdreg).bus ++ [.sessionOpen 50000000 .msbFirst ⟨.low, .leading⟩]) := by
  decide
/-- StepRunsTheDecodedInstruction. -/
theorem witness_step_runs :
    let s : State := { State.reset with inputs := [.issue (.host 0x3 [0x2A])] }
    s.phase = .idle ∧ s.wstep = .wNone ∧ s.inputs = .issue (.host 0x3 [0x2A]) :: [] ∧
      decode (.host 0x3 [0x2A]) = .ok (.rdreg 0x2A) := by decide
/-- FetchWordIsRunNext. -/
theorem witness_fetch_word : decodeTableWord 8 0x30 = some .powerReset := by decide
/-- WorkflowStepRunsItsFrame, VerifyRoundBranchesOnPresent, WorkflowClosesAsR107Says: one state for each step. -/
theorem witness_workflow_steps :
    ∀ w ∈ [WStep.wReset, .wWrite, .wVerify, .wInit],
      (atStep w).inputs = [] ∧ (atStep w).phase = .idle ∧ (atStep w).wstep = w := by decide
/-- VerifyRoundBranchesOnPresent: a round that fails and one that succeeds. -/
theorem witness_verify_rounds :
    (procVerify { atStep .wVerify with remote := .silent 0x00 }).present = false ∧
    (procVerify { atStep .wVerify with remote := .oracle (0x00 :: ts.toList) }).present = true := by decide
/-- IdleEngineDoesNothing, BytesGoMostSignificantBitFirst, every whole-operation statement (Sendop, Wrreg, Rdreg, Wrcfg, Vfycfg and
RdresRunsItsProcedure, WireFramesRunTheirOperation, WorkflowsOpenAsR107Says), ReadingOperationsStoreNothing,
PrimitivesLeaveTheRestAlone; and, with its first two parts, IspresentAnswersAtOnce, IsdualAnswersAtOnce,
WireRowIsItsHostOperation. -/
theorem witness_quiet (r : Remote) : Quiet (start r) := ⟨rfl, rfl, rfl⟩
/-- BusyEngineTurnsIssueAway, TurnedAwayWordsLeaveNoMark, the second halves of IspresentAnswersAtOnce and
IsdualAnswersAtOnce: in a frame, and between two frames of a workflow. -/
theorem witness_busy :
    let ws : List PortWord := [.host 0x9 [], .wire [0x30]]
    let s : State := { inData .wrcfg 5 (.oracle []) with inputs := ws.map .issue ++ [.quiet] }
    (s.phase ≠ .idle ∨ s.wstep ≠ .wNone) ∧ s.busy = true ∧ s.inputs = ws.map .issue ++ [.quiet] ∧
      (atStep .wBackoff).busy = true := by decide
/-- ResetAbandonsTheOperation. -/
theorem witness_reset :
    ({ inData .vfycfg 9 (.oracle []) with inputs := [.reset, .quiet] } : State).inputs = .reset :: [.quiet] := by decide
/-- WorkflowIsR107ForEveryRoundCount with no failed round. -/
theorem witness_workflow_no_failed_round :
    (procVerify (procRounds 0 (procOpening .dual (start (.reference ⟨[], [], .none, 0⟩))))).present = true := by decide
/-- The bytes of a run with one failed round. -/
def oneFailedRound : List Byte :=
  [0x00] ++ List.replicate 18 0x00 ++ [(0x00, zeros)].flatMap (fun f => f.1 :: f.2) ++ ([0x00] ++ ts.toList) ++ [0x00] ++ []
/-- WorkflowIsR107ForEveryRoundCount with one failed round. -/
theorem witness_workflow_one_failed_round :
    (∀ j, j < 1 → (procVerify (procRounds j (procOpening .single (start (.oracle oneFailedRound))))).present = false) ∧
    (procVerify (procRounds 1 (procOpening .single (start (.oracle oneFailedRound))))).present = true := by decide
/-- WorkflowCountsForEveryRoundCount with one failed round; WorkflowTraceWhenFirstRoundSucceeds shares its first two
hypotheses. -/
theorem witness_workflow_counts :
    (List.replicate 18 (0x00 : Byte)).length = 18 ∧
    (∀ f ∈ [((0x00 : Byte), zeros)], f.2.length = 17 ∧ f.2 ≠ ((start (.oracle oneFailedRound)).preset .single).toList) ∧
    (start (.oracle oneFailedRound)).remote = .oracle ([0x00] ++ List.replicate 18 0x00 ++
      [((0x00 : Byte), zeros)].flatMap (fun f => f.1 :: f.2) ++
      ([0x00] ++ ((start (.oracle oneFailedRound)).preset .single).toList) ++ [0x00] ++ []) := by decide
/-- WorkflowTraceWhenFirstRoundSucceeds. -/
theorem witness_workflow_trace :
    let r : Remote := .oracle ([0x00] ++ List.replicate 18 0xFF ++ [0x00] ++ td.toList ++ [0x00] ++ [])
    (start r).remote =
      .oracle ([0x00] ++ List.replicate 18 0xFF ++ [0x00] ++ ((start r).preset .dual).toList ++ [0x00] ++ []) := by decide
/-- WorkflowHangsOnASilentChip (its first part): program P4's absent chip, for which no round ever succeeds. -/
theorem witness_no_round_matches (j : Nat) :
    (procVerify (procRounds j (procOpening .dual (start (.silent 0x00))))).present = false := by
  obtain ⟨h1, h2⟩ := Laws.opening_silent .dual (s := start (.silent 0x00)) rfl
  obtain ⟨g1, g2⟩ := Laws.rounds_silent j h1
  rw [Bool.eq_false_iff]
  intro hp
  have := (Laws.verify_silent g1).2.2 hp 0 (by decide)
  rw [g2, h2] at this
  exact absurd this (by decide)
/-- WorkflowHangsOnASilentChip (its second part), VerifyOfASilentChip: the same chip. -/
theorem witness_silent_chip :
    (start (.silent 0x00)).remote = .silent 0x00 ∧
    ((start (.silent 0x00)).preset .dual).toList ≠ List.replicate 17 0x00 := by decide
/-- WorkflowSucceedsUnderReferenceRemote, WriteThenVerifyUnderReferenceRemote, StoresReachTheirRegistersOnly,
ReadsReturnTheRemotesBytes. -/
theorem witness_reference_remote :
    let r : RefTdc := ⟨[(5, 0xA5)], [(8, 0x01), (9, 0x02), (10, 0x03)], .none, 0⟩
    (start (.reference r)).remote = .reference r ∧ r.reg.wf = true ∧ r.res.wf = true ∧
      (0x7F : Byte).getLsbD 7 = false := by decide
/-- RegisterPrimitivesOnTheWire, ResultIsThreeBytesMostSignificantFirst: enough bytes for the longest clause. -/
theorem witness_script :
    (start (.oracle [0x00, 0x01, 0x02, 0x03, 0x04])).remote =
      .oracle (0x00 :: 0x01 :: 0x02 :: 0x03 :: [0x04]) := by decide
/-- BulkWriteOnTheWire, VerifyComparesAllSeventeen: a verify with one byte wrong. -/
theorem witness_bulk :
    (List.replicate 18 (0xAA : Byte)).length = 18 ∧ zeros.length = 17 ∧
    (start (.oracle (0x00 :: zeros ++ [0x11]))).remote = .oracle (0x00 :: zeros ++ [0x11]) ∧
    (start (.oracle (List.replicate 18 0xAA ++ []))).remote = .oracle (List.replicate 18 0xAA ++ []) := by decide
/-- IssueFrame, WorkflowAndAccessorFrame, WireFrameFrame: every instruction has a next state. -/
theorem witness_frames :
    ∀ i ∈ [Instr.powerReset, .initStart, .writeReg 5 1, .readReg 5, .writeConfig ts.toList, .readConfig, .readResult 8,
        .sendop 0x30, .wrreg 5 1, .rdreg 5, .wrcfg ts.toList, .vfycfg ts.toList, .rdres 8, .cfgsingle, .cfgdual,
        .ispresent, .isdual],
      (nextOf (exec i (start (.oracle [])))).isSome = true := by decide
/-- StepKeepsThePosition, EngineNeverStops, StepKeepsTheBusGrammar, PresetsAreConstants: inside a frame, with a next
state. -/
theorem witness_invariants :
    let s := (start (.oracle [])).startFrame .vfycfg
    EngineInv s ∧ TraceFits s ∧ (nextOf (step s)).isSome = true := by
  refine ⟨⟨⟨by decide, by decide⟩, ⟨by decide, by decide, by decide, by decide⟩, by unfold WaitInTable; decide,
    ⟨by decide, by decide, by decide, by decide, by decide⟩⟩, by unfold TraceFits; decide, by decide⟩
/-- StepKeepsTheRemotesForm. -/
theorem witness_remote_form :
    let s := inData .wrreg 0 (.reference ⟨[(5, 0xA5)], [], .wr, 4⟩)
    RemoteWf s ∧ (nextOf (step s)).isSome = true := ⟨⟨by decide, by decide⟩, by decide⟩
/-- OnlyAVerifyWritesPresent: a change by each of its three causes. -/
theorem witness_present_changes :
    (nextOf (step { State.reset with present := true, inputs := [.reset] })).map (·.present) = some false ∧
    (nextOf (step (atStep .wVerify))).map (·.present) = some true ∧
    (nextOf (step { inData .vfycfg 3 (.oracle [0x93]) with cfg := ts, present := true })).map (·.present) =
      some false := by decide
/-- OnlyAFinishedWorkflowWritesMode: a change by each of its two causes. -/
theorem witness_mode_changes :
    (nextOf (step { State.reset with mode := .dual, inputs := [.reset] })).map (·.mode) = some .unset ∧
    (nextOf (step (atStep .wFinish))).map (·.mode) = some .single := by decide
/-- PositionIgnoresReceivedBytes: a payload exchange of a verify outside a workflow, and one inside `W_VERIFY`. -/
theorem witness_position :
    let s := inData .vfycfg 3 (.oracle [0x93])
    let t : State := { s with wstep := .wVerify }
    (s.wstep = .wVerify → s.phase ≠ .fClose) ∧ (nextOf (step s)).isSome = true ∧
    (t.wstep = .wVerify → t.phase ≠ .fClose) ∧ (nextOf (step t)).isSome = true := by decide

end Sys2Proof.Tests
end

section
/-!
What a step can do, in the four cases the proofs below go through, and the invariant of the sequencer position
(10_state.md R13 to R16, 44_configure_workflows.md R111), kept by `exec` and, part by part, by `advance`.
-/

namespace Sys2Proof.Proofs

open Sys2Proof.Machine Sys2Proof.Safety Sys2Proof.Laws

/-! ### Steps -/

/-- A step resets the engine, turns a word away, runs one instruction, or makes one transition of the sequencer. -/
theorem step_by_origin {s t : State} (h : step s = .next t) :
    (∃ rest, s.inputs = .reset :: rest ∧ t = (heard s).engineReset) ∨ t = heard s ∨
    (∃ i, exec i (heard s) = .next t) ∨ advance (heard s) = .next t := by
  rcases step_cases h with hr | ⟨w, rest, -, ht⟩ | ⟨w, rest, i, -, -, -, he⟩ | ⟨i, -, he⟩ | ⟨-, ha⟩
  · exact .inl hr
  · exact .inr (.inl ht)
  · exact .inr (.inr (.inl ⟨i, he⟩))
  · exact .inr (.inr (.inl ⟨i, he⟩))
  · exact .inr (.inr (.inr ha))

/-- What loading the latches leaves alone. -/
theorem latched_kept {p : Prim} {s l : State} (h : Latched p s l) :
    l.phase = s.phase ∧ l.wstep = s.wstep ∧ l.session = s.session ∧ l.mode = s.mode ∧ l.wsel = s.wsel ∧
    l.presetSingle = s.presetSingle ∧ l.presetDual = s.presetDual ∧ l.dummyTx = s.dummyTx := by
  obtain ⟨op, addr, val, base, cfg, acc, present, ret, draws, rfl, -⟩ := h
  exact ⟨rfl, rfl, rfl, rfl, rfl, rfl, rfl, rfl⟩

/-- R74 row 4: beside the exchange, a payload step writes `idx` and what the primitive makes of the byte. -/
theorem payloadByte_eq (p : Prim) (s : State) :
    s.payloadByte p =
      { s.exchange (s.txByte p) with
        idx := s.idx + 1
        present := ((s.exchange (s.txByte p)).onPayload p).present
        diag := ((s.exchange (s.txByte p)).onPayload p).diag
        acc := ((s.exchange (s.txByte p)).onPayload p).acc } := by
  cases p <;> rfl

/-- Only a verify writes `present` when a payload byte arrives (R11). -/
theorem onPayload_present_of_ne {p : Prim} (hp : p ≠ .vfycfg) (s : State) : (s.onPayload p).present = s.present := by
  cases p
  case vfycfg => exact absurd rfl hp
  all_goals rfl

/-! ### The parts of the invariant -/

/-- The one step of a workflow that verifies (R111). -/
theorem wstep_eq_wVerify_of_prim {w : WStep} (h : w.prim = some .vfycfg) : w = .wVerify := by
  cases w <;> simp_all [WStep.prim]

theorem cur_eq_none_of_frameInTable {s : State} (h : FrameInTable s) (hp : inFrame s.phase = false) : s.cur = none := by
  cases hc : s.cur with
  | none => rfl
  | some p => simp_all [FrameInTable]

theorem frameInTable_of_cur_eq_none {s : State} (hc : s.cur = none) (hp : inFrame s.phase = false) : FrameInTable s := by
  simpa [FrameInTable, hc] using hp

theorem frameInTable_of_cur_eq_some {s : State} {p : Prim} (hc : s.cur = some p) (hp : inFrame s.phase = true)
    (hd : s.phase = .fData → s.idx ≤ p.payloadLen) (hcl : s.phase = .fClose → s.idx = p.payloadLen)
    (hw : s.wstep = .wNone ∨ s.wstep.prim = some p) : FrameInTable s := by
  simpa only [FrameInTable, hc] using ⟨hp, hd, hcl, hw⟩

/-- Inside a workflow the frame in progress is the one its step runs. -/
theorem wstep_of_frameInTable {s : State} {p : Prim} (h : FrameInTable s) (hc : s.cur = some p) :
    s.wstep = .wNone ∨ s.wstep.prim = some p := by
  simp only [FrameInTable, hc] at h
  exact h.2.2.2

theorem workflowHolds_of_wNone {s : State} (h : s.wstep = .wNone) : WorkflowHolds s := by
  simp [WorkflowHolds, h]

/-- A workflow that stays in its step holds what it held, if `OP` and, outside `W_VERIFY`, `present` stay. -/
theorem workflowHolds_of_same {s t : State} (hs : WorkflowHolds s) (hw : t.wstep = s.wstep) (hc : t.cfg = s.cfg)
    (hm : t.preset t.wsel = s.preset s.wsel) (ho : t.op = s.op) (hp : s.wstep ≠ .wVerify → t.present = s.present)
    (hi : s.wstep = .wInit → s.phase ≠ .idle) : WorkflowHolds t := by
  obtain ⟨hcfg, hreset, hinit, hpres, hfail⟩ := hs
  simp only [WorkflowHolds, hw, hc, hm, ho]
  refine ⟨hcfg, hreset, fun h _ => hinit h (hi h), fun h => ?_, fun h => ?_⟩
  · rw [hp (by rcases h with h | h | h <;> simp [h]), hpres h]
  · rw [hp (by rcases h with h | h <;> simp [h]), hfail h]

/-- Reset meets the invariant, whatever it interrupts (R142). -/
theorem engineInv_engineReset (s : State) : EngineInv s.engineReset := by
  refine ⟨⟨?_, ?_⟩, frameInTable_of_cur_eq_none rfl rfl, ?_, workflowHolds_of_wNone rfl⟩
  · simp [State.engineReset, State.reset, inFrame]
  · simp [State.engineReset, State.reset]
  · intro h
    simp [State.engineReset, State.reset] at h

theorem session_ne_opened_of_idle {s : State} (hl : LinesFollowPhase s) (hp : s.phase = .idle) :
    s.session ≠ .opened := by
  intro hse
  simpa [hp] using hl.2.1 hse

/-- R74 row 1: a frame begun between frames, by the host or by the workflow step that runs it. -/
theorem engineInv_startFrame {l : State} {p : Prim} (hse : l.session ≠ .opened)
    (hp : l.wstep = .wNone ∨ l.wstep.prim = some p) (hw : WorkflowHolds (l.startFrame p)) :
    EngineInv (l.startFrame p) := by
  refine ⟨⟨?_, ?_⟩, frameInTable_of_cur_eq_some rfl rfl ?_ ?_ hp, ?_, hw⟩
  · simp [inFrame]
  · simp [hse]
  · simp
  · simp
  · simp [WaitInTable]

/-- `exec` keeps the invariant, whichever instruction it is handed. -/
theorem exec_keeps_engineInv {i : Instr} {s t : State} (hs : EngineInv s) (h : exec i s = .next t) : EngineInv t := by
  obtain ⟨hl, hf, hw, hcfg, hreset, hinit, hpres, hfail⟩ := id hs
  rcases exec_cases h with rfl | ⟨p, l, hi, hlat, rfl⟩ | ⟨hwf, hstep⟩ | ⟨m, hi, rfl⟩ | ⟨v, hi, rfl⟩
  case inl => exact hs
  case inr.inl =>
    obtain ⟨hph, hws⟩ := isIdle_iff.1 hi
    obtain ⟨-, kws, kse, -⟩ := latched_kept hlat
    refine engineInv_startFrame ?_ (.inl (kws.trans hws)) (workflowHolds_of_wNone (kws.trans hws))
    exact kse.symm ▸ session_ne_opened_of_idle hl hph
  case inr.inr.inl =>
    have hse := session_ne_opened_of_idle hl (workflowFrame_cases hwf).1
    rcases hstep with ⟨hws, rfl⟩ | ⟨hws, rfl⟩ | ⟨hws, rfl⟩ | ⟨hws, rfl⟩
    all_goals
      refine engineInv_startFrame hse (.inr (by simp [hws, WStep.prim])) ⟨hcfg, ?_, ?_, ?_, ?_⟩
      all_goals simp [hws, hpres, Config.opcPowerReset, Config.opcInit]
  case inr.inr.inr.inl =>
    obtain ⟨hph, hws⟩ := isIdle_iff.1 hi
    have hout : inFrame s.phase = false := by simp [hph, inFrame]
    have hcur := cur_eq_none_of_frameInTable hf hout
    refine ⟨hl, frameInTable_of_cur_eq_none hcur hout, ?_, fun _ => rfl, fun _ => rfl, ?_, ?_, ?_⟩
    all_goals simp [WaitInTable, hph]
  case inr.inr.inr.inr => exact hs

/-! ### One transition of the sequencer keeps each part -/

/-- The lines follow the phase through every row of R74 and R111 (R15, R16). -/
theorem advance_keeps_lines {s t : State} (hs : LinesFollowPhase s) (h : advance s = .next t) : LinesFollowPhase t := by
  obtain ⟨hcs, hse⟩ := id hs
  rcases advance_cases h with ⟨-, -, rfl⟩ | ⟨d, hp, -, rfl⟩ | ⟨hp, -, rfl⟩ | ⟨hp, -, rfl⟩ | ⟨w, hp, -, rfl⟩ |
    ⟨p, hp, -, rfl⟩ | ⟨p, hp, -, rfl⟩ | ⟨p, hp, -, -, rfl⟩ | ⟨p, hp, -, -, rfl⟩ | ⟨p, hp, -, -, rfl⟩ |
    ⟨p, w, hp, -, -, -, rfl⟩
  case inl => exact hs
  all_goals
    simp only [hp, inFrame] at hcs hse
    simp [LinesFollowPhase, inFrame, hp, hcs, hse, State.finish, State.sendCommand, payloadByte_eq]

/-- A frame in progress stays one of R74's table, and outside a frame `cur` stays `NONE` (R13, R14). -/
theorem advance_keeps_frame {s t : State} (hs : FrameInTable s) (h : advance s = .next t) : FrameInTable t := by
  have outside (hp : inFrame s.phase = false) := cur_eq_none_of_frameInTable hs hp
  have begun {p : Prim} (hc : s.cur = some p) := wstep_of_frameInTable hs hc
  rcases advance_cases h with ⟨-, -, rfl⟩ | ⟨d, hp, -, rfl⟩ | ⟨hp, -, rfl⟩ | ⟨hp, -, rfl⟩ | ⟨w, hp, -, rfl⟩ |
    ⟨p, hp, hc, rfl⟩ | ⟨p, hp, hc, rfl⟩ | ⟨p, hp, hc, hx, rfl⟩ | ⟨p, hp, hc, hx, rfl⟩ | ⟨p, hp, -, -, rfl⟩ |
    ⟨p, w, hp, -, -, -, rfl⟩
  · exact hs
  · exact frameInTable_of_cur_eq_none (outside (by simp [hp, inFrame])) rfl
  · exact frameInTable_of_cur_eq_none (outside (by simp [hp, inFrame])) (by simp [hp, inFrame])
  · exact frameInTable_of_cur_eq_none (outside (by simp [hp, inFrame])) (by simp [State.finish, hp, inFrame])
  · exact frameInTable_of_cur_eq_none (outside (by simp [hp, inFrame])) rfl
  · exact frameInTable_of_cur_eq_some hc rfl (by simp) (by simp) (begun hc)
  · exact frameInTable_of_cur_eq_some hc rfl (fun _ => Nat.zero_le _) (by simp [State.sendCommand]) (begun hc)
  · rw [payloadByte_eq]
    exact frameInTable_of_cur_eq_some hc (by simp [hp, inFrame]) (fun _ => hx) (by simp [hp]) (begun hc)
  · exact frameInTable_of_cur_eq_some hc rfl (by simp) (fun _ => hx) (begun hc)
  · exact frameInTable_of_cur_eq_none rfl rfl
  · exact frameInTable_of_cur_eq_none rfl rfl

/-- Only a step that has a wait enters one (R111, R130). -/
theorem advance_keeps_wait {s t : State} (hs : WaitInTable s) (h : advance s = .next t) : WaitInTable t := by
  rcases advance_cases h with ⟨-, -, rfl⟩ | ⟨d, -, hw, rfl⟩ | ⟨hp, -, rfl⟩ | ⟨hp, -, rfl⟩ | ⟨w, hp, -, rfl⟩ |
    ⟨p, hp, -, rfl⟩ | ⟨p, hp, -, rfl⟩ | ⟨p, hp, -, -, rfl⟩ | ⟨p, hp, -, -, rfl⟩ | ⟨p, hp, -, -, rfl⟩ |
    ⟨p, w, hp, -, -, -, rfl⟩
  case inl => exact hs
  case inr.inl => simp [WaitInTable, hw]
  all_goals simp [WaitInTable, hp, State.finish, State.sendCommand, payloadByte_eq]

/-- A workflow waits in its settle steps and its backoff, and goes on from there (R111). -/
theorem afterWait_cases {w v : WStep} (h : w.afterWait = some v) :
    (w = .wResetSettle ∧ v = .wWrite) ∨ (w = .wBackoff ∧ v = .wVerify) ∨ (w = .wInitSettle ∧ v = .wFinish) := by
  cases w <;> simp_all [WStep.afterWait]

/-- Where a workflow goes at the end of a frame (R108, R111). -/
theorem afterFrame_cases {b : Bool} {w v : WStep} (h : w.afterFrame b = some v) :
    (w = .wReset ∧ v = .wResetSettle) ∨ (w = .wWrite ∧ v = .wVerify) ∨
    (w = .wVerify ∧ b = true ∧ v = .wInit) ∨ (w = .wVerify ∧ b = false ∧ v = .wRetryDiag) ∨
    (w = .wInit ∧ v = .wInitSettle) := by
  cases w
  case wVerify => cases b <;> simp_all [WStep.afterFrame]
  all_goals simp_all [WStep.afterFrame]

/-- A running workflow goes on holding what R106, R107 and R108 have it hold; that no verify runs outside `W_VERIFY`
is read off the frame in progress. -/
theorem advance_keeps_workflow {s t : State} (hf : FrameInTable s) (hs : WorkflowHolds s) (h : advance s = .next t) :
    WorkflowHolds t := by
  obtain ⟨hcfg, -, -, hpres, hfail⟩ := id hs
  rcases advance_cases h with ⟨-, -, rfl⟩ | ⟨d, -, hw, rfl⟩ | ⟨-, hw, rfl⟩ | ⟨-, -, rfl⟩ | ⟨w, -, ha, rfl⟩ |
    ⟨p, hp, -, rfl⟩ | ⟨p, hp, -, rfl⟩ | ⟨p, hp, hc, -, rfl⟩ | ⟨p, hp, -, -, rfl⟩ | ⟨p, -, -, hw, rfl⟩ |
    ⟨p, w, -, -, hn, ha, rfl⟩
  · exact hs
  · exact workflowHolds_of_same hs rfl rfl rfl rfl (fun _ => rfl) (fun hi => by simp [hi, WStep.wait] at hw)
  · exact ⟨fun _ => hcfg (by simp [hw]), by simp, by simp, by simp, fun _ => hfail (.inl hw)⟩
  · exact workflowHolds_of_wNone rfl
  · rcases afterWait_cases ha with ⟨hw, rfl⟩ | ⟨hw, rfl⟩ | ⟨hw, rfl⟩
    · exact ⟨fun _ => hcfg (by simp [hw]), by simp, by simp, by simp, by simp⟩
    · exact ⟨fun _ => hcfg (by simp [hw]), by simp, by simp, by simp, by simp⟩
    · exact ⟨fun _ => hcfg (by simp [hw]), by simp, by simp, fun _ => hpres (by simp [hw]), by simp⟩
  · exact workflowHolds_of_same hs rfl rfl rfl rfl (fun _ => rfl) (fun _ => by simp [hp])
  · exact workflowHolds_of_same hs rfl rfl rfl rfl (fun _ => rfl) (fun _ => by simp [hp])
  · rw [payloadByte_eq]
    rcases wstep_of_frameInTable hf hc with hw | hw
    · exact workflowHolds_of_wNone hw
    · refine workflowHolds_of_same hs rfl rfl rfl rfl (fun hv => onPayload_present_of_ne ?_ _) (fun _ => by simp [hp])
      rintro rfl
      exact hv (wstep_eq_wVerify_of_prim hw)
  · exact workflowHolds_of_same hs rfl rfl rfl rfl (fun _ => rfl) (fun _ => by simp [hp])
  · exact workflowHolds_of_wNone hw
  · rcases afterFrame_cases ha with ⟨hw, rfl⟩ | ⟨hw, rfl⟩ | ⟨hw, hb, rfl⟩ | ⟨hw, hb, rfl⟩ | ⟨hw, rfl⟩
    · exact ⟨fun _ => hcfg hn, by simp, by simp, by simp, by simp⟩
    · exact ⟨fun _ => hcfg hn, by simp, by simp, by simp, by simp⟩
    · exact ⟨fun _ => hcfg hn, by simp, by simp, fun _ => hb, by simp⟩
    · exact ⟨fun _ => hcfg hn, by simp, by simp, by simp, fun _ => hb⟩
    · exact ⟨fun _ => hcfg hn, by simp, by simp, fun _ => hpres (.inl hw), by simp⟩

theorem advance_keeps_engineInv {s t : State} (hs : EngineInv s) (h : advance s = .next t) : EngineInv t := by
  obtain ⟨hl, hf, hw, hh⟩ := hs
  exact ⟨advance_keeps_lines hl h, advance_keeps_frame hf h, advance_keeps_wait hw h, advance_keeps_workflow hf hh h⟩

/-- Settles O51: reset sets the invariant up anew, a word turned away moves nothing it speaks of, and an instruction and
a transition of the sequencer each keep it. -/
theorem stepKeepsThePosition : Obligations.StepKeepsThePosition := by
  intro s t hs h
  have hh : EngineInv (heard s) := hs
  rcases step_by_origin h with ⟨rest, -, rfl⟩ | rfl | ⟨i, he⟩ | ha
  · exact engineInv_engineReset _
  · exact hh
  · exact exec_keeps_engineInv hh he
  · exact advance_keeps_engineInv hh ha

end Sys2Proof.Proofs
end

section
/-!
What each element of 10_state.md is at reset (R23), and which step may write `present` (R11), `mode` (R12) and the constants
(R20, R21).
-/

namespace Sys2Proof.Proofs

open Sys2Proof.Machine Sys2Proof.Safety Sys2Proof.Laws

/-! ### Reset -/

/-- Settles O17: the fields of `State.reset` are R23's table. -/
theorem resetLeaves : Obligations.ResetLeaves := by
  unfold Obligations.ResetLeaves
  exact ⟨rfl, rfl, rfl, rfl, rfl, rfl, rfl, rfl, rfl, rfl, rfl⟩

/-- Settles O52: resetting the reset state gives it again, its trace is empty, and its remote is an oracle. -/
theorem resetMeetsTheInvariants : Obligations.ResetMeetsTheInvariants :=
  ⟨engineInv_engineReset State.reset, rfl, trivial⟩

/-! ### `mode` and the constants -/

/-- The preset tables and `DUMMY_TX` (R20, R21) are as before. -/
def SameConstants (s t : State) : Prop :=
  t.presetSingle = s.presetSingle ∧ t.presetDual = s.presetDual ∧ t.dummyTx = s.dummyTx

theorem exec_keeps_mode_and_constants {i : Instr} {s t : State} (h : exec i s = .next t) :
    t.mode = s.mode ∧ SameConstants s t := by
  rcases exec_cases h with rfl | ⟨p, l, -, hl, rfl⟩ | ⟨-, ⟨-, rfl⟩ | ⟨-, rfl⟩ | ⟨-, rfl⟩ | ⟨-, rfl⟩⟩ | ⟨m, -, rfl⟩ |
    ⟨v, -, rfl⟩
  case inr.inl =>
    obtain ⟨-, -, -, hm, -, hc⟩ := latched_kept hl
    exact ⟨hm, hc⟩
  all_goals exact ⟨rfl, rfl, rfl, rfl⟩

/-- The last transition of a workflow is the only one of the sequencer that writes `mode` (R110). -/
theorem advance_mode_and_constants {s t : State} (h : advance s = .next t) :
    (t.mode = s.mode ∨ (s.phase = .idle ∧ s.wstep = .wFinish ∧ t = s.finish)) ∧ SameConstants s t := by
  rcases advance_cases h with ⟨-, -, rfl⟩ | ⟨d, -, -, rfl⟩ | ⟨-, -, rfl⟩ | hfin | ⟨w, -, -, rfl⟩ |
    ⟨p, -, -, rfl⟩ | ⟨p, -, -, rfl⟩ | ⟨p, -, -, -, rfl⟩ | ⟨p, -, -, -, rfl⟩ | ⟨p, -, -, -, rfl⟩ |
    ⟨p, w, -, -, -, -, rfl⟩
  case inr.inr.inr.inl =>
    obtain ⟨-, -, rfl⟩ := id hfin
    exact ⟨.inr hfin, rfl, rfl, rfl⟩
  case inr.inr.inr.inr.inr.inr.inr.inl =>
    rw [payloadByte_eq]
    exact ⟨.inl rfl, rfl, rfl, rfl⟩
  all_goals exact ⟨.inl rfl, rfl, rfl, rfl⟩

/-- Settles O58: neither reset, an instruction nor a transition of the sequencer writes them. -/
theorem presetsAreConstants : Obligations.PresetsAreConstants := by
  intro s t h
  rcases step_by_origin h with ⟨rest, -, rfl⟩ | rfl | ⟨i, he⟩ | ha
  · exact ⟨rfl, rfl, rfl⟩
  · exact ⟨rfl, rfl, rfl⟩
  · exact (exec_keeps_mode_and_constants he).2
  · exact (advance_mode_and_constants ha).2

/-- Settles O57: no instruction writes `mode`, and of the transitions only `W_FINISH` does. -/
theorem onlyAFinishedWorkflowWritesMode : Obligations.OnlyAFinishedWorkflowWritesMode := by
  intro s t h hne
  rcases step_by_origin h with ⟨rest, hr, rfl⟩ | rfl | ⟨i, he⟩ | ha
  · exact .inl ⟨rest, hr, rfl⟩
  · exact absurd rfl hne
  · exact absurd (exec_keeps_mode_and_constants he).1 hne
  · obtain ⟨hm | ⟨hp, hw, rfl⟩, -⟩ := advance_mode_and_constants ha
    · exact absurd hm hne
    · exact .inr ⟨hw, hp, rfl, rfl⟩

/-! ### `present` -/

/-- An instruction writes `present` only by beginning a verify (R93). -/
theorem exec_present {i : Instr} {s t : State} (h : exec i s = .next t) :
    t.present = s.present ∨ (t.cur = some .vfycfg ∧ t.phase = .fCs ∧ t.present = true) := by
  rcases exec_cases h with rfl | ⟨p, l, -, hl, rfl⟩ | ⟨-, ⟨-, rfl⟩ | ⟨-, rfl⟩ | ⟨-, rfl⟩ | ⟨-, rfl⟩⟩ | ⟨m, -, rfl⟩ |
    ⟨v, -, rfl⟩
  case inr.inl =>
    obtain ⟨op, addr, val, base, cfg, acc, present, ret, draws, rfl, hp | ⟨rfl, hp⟩⟩ := hl
    · exact .inl hp
    · exact .inr ⟨rfl, rfl, hp⟩
  case inr.inr.inl.inr.inr.inl => exact .inr ⟨rfl, rfl, rfl⟩
  all_goals exact .inl rfl

/-- A payload exchange writes `present` only in a verify, and only for a byte that differs from `CFG[idx]` (R93, R95). -/
theorem payloadByte_present (p : Prim) (s : State) :
    (s.payloadByte p).present = s.present ∨
    (p = .vfycfg ∧ (s.payloadByte p).rdata ≠ cfgByte s.cfg s.idx ∧ (s.payloadByte p).present = false) := by
  by_cases hp : p = .vfycfg
  · subst hp
    by_cases hb : (s.payloadByte .vfycfg).rdata = cfgByte s.cfg s.idx
    · exact .inl (if_pos hb)
    · exact .inr ⟨rfl, hb, if_neg hb⟩
  · exact .inl (onPayload_present_of_ne hp _)

theorem advance_present {s t : State} (h : advance s = .next t) :
    t.present = s.present ∨
    (s.cur = some .vfycfg ∧ s.phase = .fData ∧ t.rdata ≠ cfgByte s.cfg s.idx ∧ t.present = false) := by
  rcases advance_cases h with ⟨-, -, rfl⟩ | ⟨d, -, -, rfl⟩ | ⟨-, -, rfl⟩ | ⟨-, -, rfl⟩ | ⟨w, -, -, rfl⟩ |
    ⟨p, -, -, rfl⟩ | ⟨p, -, -, rfl⟩ | ⟨p, hp, hc, -, rfl⟩ | ⟨p, -, -, -, rfl⟩ | ⟨p, -, -, -, rfl⟩ |
    ⟨p, w, -, -, -, -, rfl⟩
  case inr.inr.inr.inr.inr.inr.inr.inl =>
    rcases payloadByte_present p s with hs | ⟨rfl, hd, hf⟩
    · exact .inl hs
    · exact .inr ⟨hc, hp, hd, hf⟩
  all_goals exact .inl rfl

/-- Settles O56: by what a reset, an instruction and a transition of the sequencer do to `present`. -/
theorem onlyAVerifyWritesPresent : Obligations.OnlyAVerifyWritesPresent := by
  intro s t h hne
  rcases step_by_origin h with ⟨rest, hr, rfl⟩ | rfl | ⟨i, he⟩ | ha
  · exact .inl ⟨rest, hr, rfl⟩
  · exact absurd rfl hne
  · exact .inr (.inl ((exec_present he).resolve_left hne))
  · exact .inr (.inr ((advance_present ha).resolve_left hne))

end Sys2Proof.Proofs
end

section
/-!
What an instruction handed to `exec` leaves alone in every state (10_state.md R24, 40_transaction_framing.md R74,
44_configure_workflows.md R106, R111), and what the whole run of a primitive leaves alone.
-/

namespace Sys2Proof.Proofs

open Sys2Proof.Machine Sys2Proof.Safety Sys2Proof.Laws

/-! ### The Issue itself -/

/-- The Issue of a primitive was turned away, or has begun its frame (R74 row 1, R75). -/
def TurnedAwayOrBegun (p : Prim) (latch : State → State) (s t : State) : Prop :=
  t = s ∨ t = (latch s.loseRet).startFrame p

theorem issuePrim_outcome {p : Prim} {latch : State → State} {s t : State} (h : issuePrim p latch s = .next t) :
    TurnedAwayOrBegun p latch s t := by
  rcases issuePrim_cases h with ⟨-, ht⟩ | ⟨-, ht⟩
  · exact .inl ht
  · exact .inr ht

theorem execWrcfg_outcome {cfg : List Byte} {s t : State} (h : execWrcfg cfg s = .next t) :
    ∃ c, TurnedAwayOrBegun .wrcfg (State.latchCfg c) s t := by
  unfold execWrcfg at h
  split at h
  · next c _ => exact ⟨c, issuePrim_outcome h⟩
  · exact ⟨s.cfg, .inl (by simpa using h.symm)⟩

theorem execVfycfg_outcome {cfg : List Byte} {s t : State} (h : execVfycfg cfg s = .next t) :
    ∃ c, TurnedAwayOrBegun .vfycfg (fun u => (u.latchCfg c).verifyStart) s t := by
  unfold execVfycfg at h
  split at h
  · next c _ => exact ⟨c, issuePrim_outcome h⟩
  · exact ⟨s.cfg, .inl (by simpa using h.symm)⟩

section
variable {p : Prim} {latch : State → State} {s t : State} (h : TurnedAwayOrBegun p latch s t)
include h

/-- An element the latches of the frame leave alone is left alone. -/
theorem outcome_keeps {α : Type} (f : State → α) (hf : f ((latch s.loseRet).startFrame p) = f s) : f t = f s := by
  rcases h with rfl | rfl
  · rfl
  · exact hf

/-- What every primitive's Issue leaves alone: the records, the engine's registers and the remote's memories. -/
theorem outcome_frame (hl : Latched p s (latch s.loseRet)) : SameRecords s t ∧ SameEngine s t ∧ SameMemory s t := by
  rcases h with rfl | rfl
  · exact ⟨⟨rfl, rfl, rfl, rfl, rfl, rfl, rfl⟩, ⟨rfl, rfl, rfl, rfl, rfl⟩, fun _ => ⟨rfl, rfl⟩⟩
  · obtain ⟨op, addr, val, base, cfg, acc, present, ret, draws, hl, -⟩ := hl
    rw [hl]
    exact ⟨⟨rfl, rfl, rfl, rfl, rfl, rfl, rfl⟩, ⟨rfl, rfl, rfl, rfl, rfl⟩, fun a => by simp⟩

end

/-- Settles O48: an Issue is turned away or begins its frame, and the frame's start writes its own latches only. -/
theorem issueFrame : Obligations.IssueFrame := by
  intro s t
  refine ⟨fun op h => ?_, fun addr val h => ?_, fun addr h => ?_, fun cfg h => ?_, fun cfg h => ?_, fun base h => ?_⟩
  · have ho := issuePrim_outcome (latch := State.latchOp op) h
    obtain ⟨hr, he, hm⟩ := outcome_frame ho ⟨_, _, _, _, _, _, _, _, _, rfl, .inl rfl⟩
    exact ⟨hr, he, hm, outcome_keeps ho State.addr rfl, outcome_keeps ho State.val rfl, outcome_keeps ho State.base rfl,
      outcome_keeps ho State.cfg rfl, outcome_keeps ho State.present rfl, outcome_keeps ho State.acc rfl⟩
  · have ho := issuePrim_outcome (latch := fun u => (u.latchAddr addr).latchVal val) h
    obtain ⟨hr, he, hm⟩ := outcome_frame ho ⟨_, _, _, _, _, _, _, _, _, rfl, .inl rfl⟩
    exact ⟨hr, he, hm, outcome_keeps ho State.op rfl, outcome_keeps ho State.base rfl,
      outcome_keeps ho State.cfg rfl, outcome_keeps ho State.present rfl, outcome_keeps ho State.acc rfl⟩
  · have ho := issuePrim_outcome (latch := State.latchAddr addr) h
    obtain ⟨hr, he, hm⟩ := outcome_frame ho ⟨_, _, _, _, _, _, _, _, _, rfl, .inl rfl⟩
    exact ⟨hr, he, hm, outcome_keeps ho State.op rfl, outcome_keeps ho State.val rfl, outcome_keeps ho State.base rfl,
      outcome_keeps ho State.cfg rfl, outcome_keeps ho State.present rfl, outcome_keeps ho State.acc rfl⟩
  · obtain ⟨c, ho⟩ := execWrcfg_outcome h
    obtain ⟨hr, he, hm⟩ := outcome_frame ho ⟨_, _, _, _, _, _, _, _, _, rfl, .inl rfl⟩
    exact ⟨hr, he, hm, outcome_keeps ho State.op rfl, outcome_keeps ho State.addr rfl, outcome_keeps ho State.val rfl,
      outcome_keeps ho State.base rfl, outcome_keeps ho State.present rfl, outcome_keeps ho State.acc rfl⟩
  · obtain ⟨c, ho⟩ := execVfycfg_outcome h
    obtain ⟨hr, he, hm⟩ := outcome_frame ho ⟨_, _, _, _, _, _, _, _, _, rfl, .inr ⟨rfl, rfl⟩⟩
    exact ⟨hr, he, hm, outcome_keeps ho State.op rfl, outcome_keeps ho State.addr rfl, outcome_keeps ho State.val rfl,
      outcome_keeps ho State.base rfl, outcome_keeps ho State.acc rfl⟩
  · have ho := issuePrim_outcome (latch := fun u => (u.latchBase base).clearAcc) h
    obtain ⟨hr, he, hm⟩ := outcome_frame ho ⟨_, _, _, _, _, _, _, _, _, rfl, .inl rfl⟩
    exact ⟨hr, he, hm, outcome_keeps ho State.op rfl, outcome_keeps ho State.addr rfl, outcome_keeps ho State.val rfl,
      outcome_keeps ho State.cfg rfl, outcome_keeps ho State.present rfl⟩

/-! ### Workflows and accessors -/

theorem issueWorkflow_frame {m : Channels} {s t : State} (h : issueWorkflow m s = .next t) :
    SameRecords s t ∧ t.present = s.present ∧ t.bus = s.bus ∧ t.cs = s.cs ∧ t.session = s.session ∧
    t.phase = s.phase ∧ t.cur = s.cur ∧ t.idx = s.idx ∧ t.rdata = s.rdata ∧ t.acc = s.acc ∧
    SameAddr s t ∧ SameVal s t ∧ SameBase s t ∧ t.remote = s.remote := by
  rcases issueWorkflow_cases h with ⟨-, rfl⟩ | ⟨-, rfl⟩
  all_goals
    exact ⟨⟨rfl, rfl, rfl, rfl, rfl, rfl, rfl⟩, rfl, rfl, rfl, rfl, rfl, rfl, rfl, rfl, rfl, rfl, rfl, rfl, rfl⟩

theorem issueAccessor_frame {v : RetVal} {s t : State} (h : issueAccessor v s = .next t) :
    ∃ ret rets, t = { s with ret := ret, rets := rets } := by
  rcases issueAccessor_cases h with ⟨-, rfl⟩ | ⟨-, rfl⟩
  · exact ⟨_, _, rfl⟩
  · exact ⟨_, _, rfl⟩

/-- Settles O49: both workflows are one Issue with another preset, both accessors one answer with another value. -/
theorem workflowAndAccessorFrame : Obligations.WorkflowAndAccessorFrame := by
  intro s t
  refine ⟨?_, ?_⟩
  · rintro (h | h)
    · exact issueWorkflow_frame h
    · exact issueWorkflow_frame h
  · rintro (h | h)
    · exact issueAccessor_frame h
    · exact issueAccessor_frame h

/-! ### The run of a primitive -/

/-- The part of the state that a frame of `p` leaves alone (R24), with everything else as at reset: `present` and the
records are a verify's to write (R93, R94), `ACC` a result read's (R100). -/
def restOf (p : Prim) (s : State) : State :=
  { State.reset with
    mode := s.mode
    presetSingle := s.presetSingle
    presetDual := s.presetDual
    op := s.op
    addr := s.addr
    val := s.val
    base := s.base
    cfg := s.cfg
    present := if p = .vfycfg then false else s.present
    diag := if p = .vfycfg then [] else s.diag
    acc := if p = .rdres then 0 else s.acc }

theorem restOf_onPayload (p : Prim) (s : State) : restOf p (s.onPayload p) = restOf p s := by
  cases p <;> rfl

/-- The payload loop leaves alone what the action on each byte does; an exchange and `idx` are none of it. -/
theorem restOf_procPayload (p : Prim) (tx : Nat → Byte) (k : Nat) (s : State) :
    restOf p (procPayload tx (State.onPayload · p) k s) = restOf p s := by
  induction k generalizing s with
  | zero => rfl
  | succ k ih => exact (ih _).trans (restOf_onPayload p (s.exchange (tx s.idx)))

theorem restOf_procFrame (p : Prim) (cmd : Byte) (n : Nat) (tx : Nat → Byte) (s : State) :
    restOf p (procFrame cmd n tx (State.onPayload · p) s) = restOf p s :=
  restOf_procPayload p tx n { (procBegin s).exchange cmd with idx := 0 }

/-- A primitive issued to a quiet engine runs to its `Ret`, and its frame leaves the rest of the latched state alone. -/
theorem issuePrim_runs {p : Prim} {latch : State → State} {s : State} (hq : Quiet s)
    (hi : (latch s.loseRet).inputs = s.inputs) (hw : (latch s.loseRet).wstep = s.wstep) :
    ∃ u t, issuePrim p latch s = .next u ∧ after (p.payloadLen + 4) u = .next t ∧
      ∀ {α : Type} (f : State → α), f (restOf p t) = f (restOf p (latch s.loseRet)) := by
  obtain ⟨hph, hws, hin⟩ := hq
  refine ⟨_, _, ?_, after_host_frame p (latch s.loseRet) (hi.trans hin) (hw.trans hws), ?_⟩
  · simp [issuePrim, State.busy, isIdle_iff.2 ⟨hph, hws⟩]
  · exact fun f => congrArg f (restOf_procFrame p _ _ _ _)

theorem exec_wrcfg_toList (c : Cfg) (s : State) :
    exec (.wrcfg c.toList) s = issuePrim .wrcfg (State.latchCfg c) s := by
  simp [exec, execWrcfg, cfgOfList_toList]

theorem exec_vfycfg_toList (c : Cfg) (s : State) :
    exec (.vfycfg c.toList) s = issuePrim .vfycfg (fun u => (u.latchCfg c).verifyStart) s := by
  simp [exec, execVfycfg, cfgOfList_toList]

/-- Settles O47: each primitive loads its own latches and then runs its frame, which keeps the rest. -/
theorem primitivesLeaveTheRestAlone : Obligations.PrimitivesLeaveTheRestAlone := by
  intro s hq
  refine ⟨fun op => ?_, fun addr val => ?_, fun addr => ?_, fun cfg => ?_, fun cfg => ?_, fun base => ?_⟩
  · obtain ⟨u, t, hu, ht, k⟩ := issuePrim_runs (p := .sendop) (latch := State.latchOp op) hq rfl rfl
    exact ⟨u, t, hu, ht, k State.present, k State.mode, k State.diag, k State.presetSingle, k State.presetDual,
      k State.acc, k State.addr, k State.val, k State.base, k State.cfg⟩
  · obtain ⟨u, t, hu, ht, k⟩ :=
      issuePrim_runs (p := .wrreg) (latch := fun u => (u.latchAddr addr).latchVal val) hq rfl rfl
    exact ⟨u, t, hu, ht, k State.present, k State.mode, k State.diag, k State.presetSingle, k State.presetDual,
      k State.acc, k State.op, k State.base, k State.cfg⟩
  · obtain ⟨u, t, hu, ht, k⟩ := issuePrim_runs (p := .rdreg) (latch := State.latchAddr addr) hq rfl rfl
    exact ⟨u, t, hu, ht, k State.present, k State.mode, k State.diag, k State.presetSingle, k State.presetDual,
      k State.acc, k State.op, k State.val, k State.base, k State.cfg⟩
  · rw [exec_wrcfg_toList]
    obtain ⟨u, t, hu, ht, k⟩ := issuePrim_runs (p := .wrcfg) (latch := State.latchCfg cfg) hq rfl rfl
    exact ⟨u, t, hu, ht, k State.present, k State.mode, k State.diag, k State.presetSingle, k State.presetDual,
      k State.acc, k State.op, k State.addr, k State.val, k State.base⟩
  · rw [exec_vfycfg_toList]
    obtain ⟨u, t, hu, ht, k⟩ :=
      issuePrim_runs (p := .vfycfg) (latch := fun u => (u.latchCfg cfg).verifyStart) hq rfl rfl
    exact ⟨u, t, hu, ht, k State.mode, k State.presetSingle, k State.presetDual, k State.acc, k State.op, k State.addr,
      k State.val, k State.base⟩
  · obtain ⟨u, t, hu, ht, k⟩ :=
      issuePrim_runs (p := .rdres) (latch := fun u => (u.latchBase base).clearAcc) hq rfl rfl
    exact ⟨u, t, hu, ht, k State.present, k State.mode, k State.diag, k State.presetSingle, k State.presetDual,
      k State.op, k State.addr, k State.val, k State.cfg⟩

end Sys2Proof.Proofs
end

section
/-!
The position does not depend on what is received (10_state.md R13, 40_transaction_framing.md R74). A step is compared with the
step of the same state with everything received, and everything made of it, erased.
-/

namespace Sys2Proof.Proofs

open Sys2Proof.Machine Sys2Proof.Safety Sys2Proof.Laws

/-- The state without what has been and will be received and what the engine made of it. -/
def eraseReceived (s : State) : State :=
  { s with present := false, rdata := 0, acc := 0, ret := 0, bus := [], diag := [], rets := [],
           remote := .oracle [], draws := 0 }

/-- The same for the next state of an outcome. -/
def eraseOutcome : Host.Outcome State Fault Refusal → Host.Outcome State Fault Refusal
  | .next s => .next (eraseReceived s)
  | .fault f => .fault f
  | .refused r => .refused r

theorem eraseOutcome_eq_next {o : Host.Outcome State Fault Refusal} {t : State}
    (h : eraseOutcome o = .next (eraseReceived t)) : ∃ t', o = .next t' ∧ eraseReceived t' = eraseReceived t := by
  cases o with
  | next t' => exact ⟨t', rfl, by simpa [eraseOutcome] using h⟩
  | fault f => simp [eraseOutcome] at h
  | refused r => simp [eraseOutcome] at h

/-! ### Instructions -/

theorem busy_eraseReceived (s : State) : (eraseReceived s).busy = s.busy := rfl
theorem isIdle_eraseReceived (s : State) : (eraseReceived s).isIdle = s.isIdle := rfl
theorem workflowFrame_eraseReceived (s : State) : workflowFrame (eraseReceived s) = workflowFrame s := rfl

theorem eraseReceived_startFrame {l l' : State} (h : eraseReceived l = eraseReceived l') (p : Prim) :
    eraseReceived (l.startFrame p) = eraseReceived (l'.startFrame p) :=
  congrArg (fun u => eraseReceived (u.startFrame p)) h

theorem issuePrim_eraseReceived {p : Prim} {latch : State → State} {s : State}
    (hl : eraseReceived (latch (eraseReceived s).loseRet) = eraseReceived (latch s.loseRet)) :
    eraseOutcome (issuePrim p latch (eraseReceived s)) = eraseOutcome (issuePrim p latch s) := by
  unfold issuePrim
  rw [busy_eraseReceived]
  split
  · rfl
  · exact congrArg Host.Outcome.next (eraseReceived_startFrame hl p)

theorem runFrame_eraseReceived {i : Instr} {p : Prim} {latch : State → State} {s : State}
    (hl : eraseReceived (latch (eraseReceived s).loseRet) = eraseReceived (latch s.loseRet))
    (hw : eraseReceived (latch (eraseReceived s)) = eraseReceived (latch s)) :
    eraseOutcome (runFrame i p latch (eraseReceived s)) = eraseOutcome (runFrame i p latch s) := by
  unfold runFrame
  rw [isIdle_eraseReceived, workflowFrame_eraseReceived]
  split
  · exact congrArg Host.Outcome.next (eraseReceived_startFrame hl p)
  · split
    · exact congrArg Host.Outcome.next (eraseReceived_startFrame hw p)
    · rfl

theorem issueWorkflow_eraseReceived (m : Channels) (s : State) :
    eraseOutcome (issueWorkflow m (eraseReceived s)) = eraseOutcome (issueWorkflow m s) := by
  unfold issueWorkflow
  rw [busy_eraseReceived]
  split
  · rfl
  · cases m <;> rfl

theorem issueAccessor_eraseReceived (v w : RetVal) (s : State) :
    eraseOutcome (issueAccessor w (eraseReceived s)) = eraseOutcome (issueAccessor v s) := by
  unfold issueAccessor
  rw [busy_eraseReceived]
  split <;> rfl

/-- An instruction reads nothing received but to answer the host with it. -/
theorem exec_eraseReceived (i : Instr) (s : State) :
    eraseOutcome (exec i (eraseReceived s)) = eraseOutcome (exec i s) := by
  cases i
  case powerReset | initStart | readReg | readConfig => exact runFrame_eraseReceived rfl rfl
  case writeReg adr val =>
    exact runFrame_eraseReceived (latch := fun u => (u.latchAddr (adr.setWidth 8)).latchVal val) rfl rfl
  case readResult adr =>
    exact runFrame_eraseReceived (latch := fun u => (u.latchBase (adr.setWidth 8)).clearAcc) rfl rfl
  case sendop | rdreg => exact issuePrim_eraseReceived rfl
  case wrreg addr val => exact issuePrim_eraseReceived (latch := fun u => (u.latchAddr addr).latchVal val) rfl
  case rdres base => exact issuePrim_eraseReceived (latch := fun u => (u.latchBase base).clearAcc) rfl
  case writeConfig cfg =>
    simp only [exec, execWriteConfig]
    split
    · exact runFrame_eraseReceived rfl rfl
    · rfl
  case wrcfg cfg =>
    simp only [exec, execWrcfg]
    split
    · exact issuePrim_eraseReceived rfl
    · rfl
  case vfycfg cfg =>
    simp only [exec, execVfycfg]
    split
    · exact issuePrim_eraseReceived rfl
    · rfl
  case cfgsingle | cfgdual => exact issueWorkflow_eraseReceived _ s
  case ispresent | isdual => exact issueAccessor_eraseReceived _ _ s

/-! ### Transitions of the sequencer -/

/-- R108: the branch out of `W_VERIFY` is the only one that reads `present`. -/
theorem afterFrame_eq_of_ne {w : WStep} (h : w ≠ .wVerify) (b c : Bool) : w.afterFrame b = w.afterFrame c := by
  cases w
  case wVerify => exact absurd rfl h
  all_goals rfl

theorem payloadByte_eraseReceived (p : Prim) (s : State) :
    eraseReceived ((eraseReceived s).payloadByte p) = eraseReceived (s.payloadByte p) := by
  cases p <;> rfl

theorem endFrame_eraseReceived (p : Prim) {s : State} (hv : s.wstep ≠ .wVerify) :
    eraseOutcome (endFrame p (eraseReceived s)) = eraseOutcome (endFrame p s) := by
  have hw : (eraseReceived s).wstep = s.wstep := rfl
  unfold endFrame
  rw [hw, afterFrame_eq_of_ne hv _ s.present]
  split
  · rfl
  · split <;> rfl

theorem advance_eraseReceived {s : State} (hv : s.wstep = .wVerify → s.phase ≠ .fClose) :
    eraseOutcome (advance (eraseReceived s)) = eraseOutcome (advance s) := by
  have hw : (eraseReceived s).wstep = s.wstep := rfl
  have hp : (eraseReceived s).phase = s.phase := rfl
  have hc : (eraseReceived s).cur = s.cur := rfl
  have hx : (eraseReceived s).idx = s.idx := rfl
  unfold advance
  rw [hp, hw, hc, hx]
  cases hph : s.phase
  case idle => cases s.wstep <;> rfl
  case waiting => cases s.wstep.afterWait <;> rfl
  case fCs => cases s.cur <;> rfl
  case fCmd => cases s.cur <;> rfl
  case fData =>
    cases s.cur with
    | none => rfl
    | some p =>
      dsimp only
      split
      · exact congrArg Host.Outcome.next (payloadByte_eraseReceived p s)
      · split <;> rfl
  case fClose =>
    cases s.cur with
    | none => rfl
    | some p => exact endFrame_eraseReceived p (fun h => hv h hph)

/-! ### A step -/

/-- What a step does with what was fetched. -/
def perform : Fetched → Host.Outcome State Fault Refusal
  | .run i s => exec i s
  | .advance s => advance s
  | .stay s => .next s

theorem step_eq_perform (s : State) : step s = perform (fetch s) := rfl

theorem fetchInternal_eraseReceived {s : State} (hv : s.wstep = .wVerify → s.phase ≠ .fClose) :
    eraseOutcome (perform (fetchInternal (eraseReceived s))) = eraseOutcome (perform (fetchInternal s)) := by
  unfold fetchInternal
  rw [workflowFrame_eraseReceived]
  cases workflowFrame s with
  | some i => exact exec_eraseReceived i s
  | none => exact advance_eraseReceived hv

theorem fetchPort_eraseReceived (w : PortWord) (s : State) :
    eraseOutcome (perform (fetchPort w (eraseReceived s))) = eraseOutcome (perform (fetchPort w s)) := by
  unfold fetchPort
  rw [busy_eraseReceived]
  split
  · rfl
  · cases decode w with
    | ok i => exact exec_eraseReceived i s
    | rejected r => rfl

/-- The step after erasing is the step before it, erased, but for the branch out of `W_VERIFY`. -/
theorem step_eraseReceived {s : State} (hv : s.wstep = .wVerify → s.phase ≠ .fClose) :
    eraseOutcome (step (eraseReceived s)) = eraseOutcome (step s) := by
  have hin : (eraseReceived s).inputs = s.inputs := rfl
  rw [step_eq_perform, step_eq_perform]
  unfold fetch
  rw [hin]
  cases s.inputs with
  | nil => exact fetchInternal_eraseReceived hv
  | cons e rest =>
    cases e with
    | quiet => exact fetchInternal_eraseReceived (s := { s with inputs := rest }) hv
    | issue w => exact fetchPort_eraseReceived w { s with inputs := rest }
    | reset => rfl

/-- Settles O59: the two states are one state once what was received is erased, and so are their steps. -/
theorem positionIgnoresReceivedBytes : Obligations.PositionIgnoresReceivedBytes := by
  intro s t p rd ac rt bus dg rets rem n hv h
  have he := (step_eraseReceived (s := { s with
    present := p, rdata := rd, acc := ac, ret := rt, bus := bus, diag := dg, rets := rets, remote := rem, draws := n })
    hv).symm.trans (step_eraseReceived (s := s) hv)
  rw [h] at he
  obtain ⟨t', ht', hs⟩ := eraseOutcome_eq_next he
  have same {α : Type} (f : State → α) : f (eraseReceived t') = f (eraseReceived t) := congrArg f hs
  exact ⟨t', ht', same State.wstep, same State.cur, same State.phase, same State.idx, same State.cs, same State.session⟩

end Sys2Proof.Proofs
end

section
/-!
One whole frame (40_transaction_framing.md R70 to R77): what it leaves alone, what it sends and what comes back,
whatever the remote; and the run of each of the six primitives, from its Issue to its `Ret`.
-/

namespace Sys2Proof.Proofs

open Sys2Proof.Machine Sys2Proof.Safety Sys2Proof.Laws

/-! ### A whole frame -/

/-- The frame of `p` from the latches as they stand (R77). -/
def frameOf (p : Prim) (s : State) : State :=
  procFrame (s.cmdByte p) p.payloadLen (txOf p s) (State.onPayload · p) s

/-- One round of the payload loop (R77): the exchange, what the primitive makes of the byte, the next index. -/
def payloadStep (p : Prim) (tx : Byte) (s : State) : State :=
  { (s.exchange tx).onPayload p with idx := s.idx + 1 }

theorem procPayload_succ (p : Prim) (tx : Nat → Byte) (k : Nat) (s : State) :
    procPayload tx (State.onPayload · p) (k + 1) s =
      procPayload tx (State.onPayload · p) k (payloadStep p (tx s.idx) s) := rfl

/-- What the primitive makes of the byte touches neither the bus nor the remote (R73). -/
theorem payloadStep_bus_remote (p : Prim) (tx : Byte) (s : State) :
    (payloadStep p tx s).bus = (s.exchange tx).bus ∧ (payloadStep p tx s).remote = (s.exchange tx).remote ∧
    (payloadStep p tx s).draws = s.draws + 1 ∧ (payloadStep p tx s).idx = s.idx + 1 := by
  cases p <;> exact ⟨rfl, rfl, rfl, rfl⟩

/-- The payload loop writes `idx`, `RDATA`, the remote and the bus trace, and what a verify and a result read make of a
byte. -/
theorem procPayload_eq (p : Prim) (tx : Nat → Byte) (k : Nat) (s : State) :
    procPayload tx (State.onPayload · p) k s =
      { s with
        idx := (procPayload tx (State.onPayload · p) k s).idx
        rdata := (procPayload tx (State.onPayload · p) k s).rdata
        remote := (procPayload tx (State.onPayload · p) k s).remote
        draws := (procPayload tx (State.onPayload · p) k s).draws
        bus := (procPayload tx (State.onPayload · p) k s).bus
        present := (procPayload tx (State.onPayload · p) k s).present
        diag := (procPayload tx (State.onPayload · p) k s).diag
        acc := (procPayload tx (State.onPayload · p) k s).acc } := by
  induction k generalizing s with
  | zero => rfl
  | succ k ih =>
    refine (ih (payloadStep p (tx s.idx) s)).trans ?_
    cases p <;> rfl

/-- A frame ends between frames (R72) and leaves alone what its payload loop does. -/
theorem frameOf_eq (p : Prim) (s : State) :
    frameOf p s =
      { s with
        phase := .idle, cur := none, cs := .high, session := .closed
        idx := (frameOf p s).idx
        rdata := (frameOf p s).rdata
        remote := (frameOf p s).remote
        draws := (frameOf p s).draws
        bus := (frameOf p s).bus
        present := (frameOf p s).present
        diag := (frameOf p s).diag
        acc := (frameOf p s).acc } :=
  congrArg procEnd (procPayload_eq p (txOf p s) p.payloadLen { (procBegin s).exchange (s.cmdByte p) with idx := 0 })

@[simp] theorem frameOf_phase (p : Prim) (s : State) : (frameOf p s).phase = .idle := rfl
@[simp] theorem frameOf_wstep (p : Prim) (s : State) : (frameOf p s).wstep = s.wstep :=
  (congrArg State.wstep (frameOf_eq p s) :)
@[simp] theorem frameOf_wsel (p : Prim) (s : State) : (frameOf p s).wsel = s.wsel :=
  (congrArg State.wsel (frameOf_eq p s) :)
@[simp] theorem frameOf_cfg (p : Prim) (s : State) : (frameOf p s).cfg = s.cfg :=
  (congrArg State.cfg (frameOf_eq p s) :)
@[simp] theorem frameOf_inputs (p : Prim) (s : State) : (frameOf p s).inputs = s.inputs :=
  (congrArg State.inputs (frameOf_eq p s) :)
@[simp] theorem frameOf_rets (p : Prim) (s : State) : (frameOf p s).rets = s.rets :=
  (congrArg State.rets (frameOf_eq p s) :)

/-- Only a verify writes `present` and the records (R93, R94). -/
theorem frameOf_present_diag {p : Prim} (hp : p ≠ .vfycfg) (s : State) :
    (frameOf p s).present = s.present ∧ (frameOf p s).diag = s.diag := by
  have h := restOf_procFrame p (s.cmdByte p) p.payloadLen (txOf p s) s
  have hpr := congrArg State.present h
  have hd := congrArg State.diag h
  simp only [restOf, if_neg hp] at hpr hd
  exact ⟨hpr, hd⟩

/-! ### A primitive the host issues -/

/-- A frame of `p` that the host issued, with its `Ret` (R74 row 6). -/
def answered (p : Prim) (s : State) : State := (frameOf p s).reply ((frameOf p s).result p)

/-- A primitive issued to a quiet engine runs to its `Ret`, the end of its frame's procedure (R74, R77). -/
theorem issuePrim_runs_to_answer {p : Prim} {latch : State → State} {s : State} (hq : Quiet s)
    (hi : (latch s.loseRet).inputs = s.inputs) (hw : (latch s.loseRet).wstep = s.wstep) :
    issuePrim p latch s = .next ((latch s.loseRet).startFrame p) ∧
    after (p.payloadLen + 4) ((latch s.loseRet).startFrame p) = .next (answered p (latch s.loseRet)) := by
  obtain ⟨hph, hws, hin⟩ := hq
  refine ⟨?_, after_host_frame p (latch s.loseRet) (hi.trans hin) (hw.trans hws)⟩
  simp [issuePrim, State.busy, isIdle_iff.2 ⟨hph, hws⟩]

@[simp] theorem answered_bus (p : Prim) (s : State) : (answered p s).bus = (frameOf p s).bus := rfl
@[simp] theorem answered_remote (p : Prim) (s : State) : (answered p s).remote = (frameOf p s).remote := rfl
@[simp] theorem answered_rets (p : Prim) (s : State) :
    (answered p s).rets = s.rets ++ [(frameOf p s).result p] := by simp [answered]

theorem quiet_answered {s : State} (p : Prim) (hw : s.wstep = .wNone) (hi : s.inputs = []) : Quiet (answered p s) :=
  ⟨rfl, (frameOf_wstep p s).trans hw, (frameOf_inputs p s).trans hi⟩

/-! In a quiet engine each primitive runs to its answer, and an accessor answers at once. -/

section
variable {s : State} (hq : Quiet s)
include hq

theorem sendop_runs (op : Byte) :
    ∃ u, exec (.sendop op) s = .next u ∧ after 4 u = .next (answered .sendop (s.loseRet.latchOp op)) :=
  ⟨_, issuePrim_runs_to_answer (p := .sendop) (latch := State.latchOp op) hq rfl rfl⟩

theorem wrreg_runs (addr val : Byte) :
    ∃ u, exec (.wrreg addr val) s = .next u ∧
      after 5 u = .next (answered .wrreg ((s.loseRet.latchAddr addr).latchVal val)) :=
  ⟨_, issuePrim_runs_to_answer (p := .wrreg) (latch := fun u => (u.latchAddr addr).latchVal val) hq rfl rfl⟩

theorem rdreg_runs (addr : Byte) :
    ∃ u, exec (.rdreg addr) s = .next u ∧ after 5 u = .next (answered .rdreg (s.loseRet.latchAddr addr)) :=
  ⟨_, issuePrim_runs_to_answer (p := .rdreg) (latch := State.latchAddr addr) hq rfl rfl⟩

theorem wrcfg_runs (cfg : Cfg) :
    ∃ u, exec (.wrcfg cfg.toList) s = .next u ∧ after 21 u = .next (answered .wrcfg (s.loseRet.latchCfg cfg)) := by
  rw [exec_wrcfg_toList]
  exact ⟨_, issuePrim_runs_to_answer (p := .wrcfg) (latch := State.latchCfg cfg) hq rfl rfl⟩

theorem vfycfg_runs (cfg : Cfg) :
    ∃ u, exec (.vfycfg cfg.toList) s = .next u ∧
      after 21 u = .next (answered .vfycfg (s.loseRet.latchCfg cfg).verifyStart) := by
  rw [exec_vfycfg_toList]
  exact ⟨_, issuePrim_runs_to_answer (p := .vfycfg) (latch := fun u => (u.latchCfg cfg).verifyStart) hq rfl rfl⟩

theorem rdres_runs (base : Byte) :
    ∃ u, exec (.rdres base) s = .next u ∧ after 7 u = .next (answered .rdres (s.loseRet.latchBase base).clearAcc) :=
  ⟨_, issuePrim_runs_to_answer (p := .rdres) (latch := fun u => (u.latchBase base).clearAcc) hq rfl rfl⟩

theorem issueAccessor_of_quiet (v : RetVal) : issueAccessor v s = .next (s.reply v) := by
  obtain ⟨hph, hws, -⟩ := hq
  simp [issueAccessor, State.busy, isIdle_iff.2 ⟨hph, hws⟩]

end

/-! ### What a frame sends and what comes back -/

/-- What the remote answers to the bytes of a frame, one exchange after another. -/
def received : List Byte → Nat → Remote → List Byte
  | [], _, _ => []
  | tx :: txs, n, r => (r.exchange tx n).1 :: received txs (n + 1) (r.exchange tx n).2

/-- The remote after it has been sent the bytes of a frame. -/
def remoteAfter : List Byte → Nat → Remote → Remote
  | [], _, r => r
  | tx :: txs, n, r => remoteAfter txs (n + 1) (r.exchange tx n).2

@[simp] theorem length_received (txs : List Byte) (n : Nat) (r : Remote) :
    (received txs n r).length = txs.length := by
  induction txs generalizing n r with
  | nil => rfl
  | cons tx txs ih => simp [received, ih]

/-- The bytes a frame of `p` transmits: the command byte and then the payload (R73). -/
def sentBy (p : Prim) (s : State) : List Byte := s.cmdByte p :: (List.range p.payloadLen).map (txOf p s)

/-- The bytes a frame of `p` receives. -/
def answersTo (p : Prim) (s : State) : List Byte := received (sentBy p s) s.draws s.remote.onCsAssert

/-- The exchanges of the payload loop on the bus and at the remote. -/
theorem procPayload_bus_remote (p : Prim) (tx : Nat → Byte) (k : Nat) (s : State) :
    (procPayload tx (State.onPayload · p) k s).bus =
      s.bus ++ (((List.range' s.idx k).map tx).zip (received ((List.range' s.idx k).map tx) s.draws s.remote)).map
        (fun e => .xfer e.1 e.2) ∧
    (procPayload tx (State.onPayload · p) k s).remote =
      remoteAfter ((List.range' s.idx k).map tx) s.draws s.remote := by
  induction k generalizing s with
  | zero => simp [procPayload, remoteAfter]
  | succ k ih =>
    obtain ⟨hb, hr⟩ := ih (payloadStep p (tx s.idx) s)
    obtain ⟨eb, er, ed, ex⟩ := payloadStep_bus_remote p (tx s.idx) s
    rw [eb, er, ed, ex] at hb
    rw [er, ed, ex] at hr
    rw [procPayload_succ]
    exact ⟨by simpa [List.range'_succ, received] using hb, hr⟩

/-- A frame puts its exchanges on the bus (R70), and the remote has taken part in each. -/
theorem frameOf_bus_remote (p : Prim) (s : State) :
    (frameOf p s).bus = s.bus ++ frameEvents ((sentBy p s).zip (answersTo p s)) ∧
    (frameOf p s).remote = remoteAfter (sentBy p s) s.draws s.remote.onCsAssert := by
  obtain ⟨hb, hr⟩ := procPayload_bus_remote p (txOf p s) p.payloadLen
    { (procBegin s).exchange (s.cmdByte p) with idx := 0 }
  rw [← List.range_eq_range'] at hb hr
  refine ⟨?_, hr⟩
  have := congrArg (· ++ [BusEvent.sessionClose, .csDeassert]) hb
  simpa [frameOf, procFrame, procEnd, procBegin, frameEvents, sentBy, answersTo, received] using this

end Sys2Proof.Proofs
end

section
/-!
The bits on the wire (20_memory.md R33, 40_transaction_framing.md R71).
-/

namespace Sys2Proof.Proofs

open Sys2Proof.Machine Sys2Proof.Safety Sys2Proof.Laws

/-! ### The bits of a frame -/

/-- Inside one session every byte goes out in the order the session was opened with (R33, R71). -/
theorem bitsSent_frameEvents (exchanges : List (Byte × Byte)) :
    bitsSent none (frameEvents exchanges) = exchanges.flatMap (fun e => bitsFromTop e.1) := by
  have inSession : ∀ xs : List (Byte × Byte),
      bitsSent (some .msbFirst) (xs.map (fun e => .xfer e.1 e.2) ++ [.sessionClose, .csDeassert]) =
        xs.flatMap (fun e => bitsFromTop e.1) := by
    intro xs
    induction xs with
    | nil => rfl
    | cons x xs ih =>
      simp only [List.map_cons, List.cons_append, bitsSent, ih, List.flatMap_cons]
      rfl
  simpa [frameEvents, bitsSent, openEvent] using inSession exchanges

/-- The bits of a frame are those of its command byte and its payload. -/
theorem bitsSent_frameOf (p : Prim) (s : State) :
    ∃ sent, (frameOf p s).bus = s.bus ++ sent ∧ bitsSent none sent = (sentBy p s).flatMap bitsFromTop := by
  refine ⟨_, (frameOf_bus_remote p s).1, ?_⟩
  rw [bitsSent_frameEvents, ← List.flatMap_map, List.map_fst_zip (by simp [answersTo])]

/-! ### The event of a step -/

/-- Everything an instruction can put on the bus. -/
theorem exec_bus {i : Instr} {s t : State} (h : exec i s = .next t) : t.bus = s.bus ∨ t.bus = s.bus ++ [.csAssert] := by
  rcases exec_cases h with rfl | ⟨p, l, -, ⟨op, addr, val, base, cfg, acc, present, ret, draws, rfl, -⟩, rfl⟩ |
    ⟨-, ⟨-, rfl⟩ | ⟨-, rfl⟩ | ⟨-, rfl⟩ | ⟨-, rfl⟩⟩ | ⟨m, -, rfl⟩ | ⟨v, -, rfl⟩
  case inr.inr.inr.inl | inr.inr.inr.inr => exact .inl rfl
  case inl => exact .inl rfl
  all_goals exact .inr rfl

/-- An event that opens a session opens it with the parameters of R71. -/
def OpensAsR71 (e : BusEvent) : Prop := ∀ rate order mode, e = .sessionOpen rate order mode → e = openEvent

/-- A transition of the sequencer puts at most one event on the bus. -/
theorem advance_bus {s t : State} (h : advance s = .next t) :
    t.bus = s.bus ∨ ∃ e, OpensAsR71 e ∧ t.bus = s.bus ++ [e] := by
  rcases advance_cases h with ⟨-, -, rfl⟩ | ⟨d, -, -, rfl⟩ | ⟨-, -, rfl⟩ | ⟨-, -, rfl⟩ | ⟨w, -, -, rfl⟩ |
    ⟨p, -, -, rfl⟩ | ⟨p, -, -, rfl⟩ | ⟨p, -, -, -, rfl⟩ | ⟨p, -, -, -, rfl⟩ | ⟨p, -, -, -, rfl⟩ |
    ⟨p, w, -, -, -, -, rfl⟩
  case inr.inr.inr.inr.inr.inl => exact .inr ⟨_, fun _ _ _ _ => rfl, rfl⟩
  case inr.inr.inr.inr.inr.inr.inr.inl =>
    rw [payloadByte_eq]
    exact .inr ⟨_, by simp [OpensAsR71], rfl⟩
  case inl | inr.inr.inl | inr.inr.inr.inl | inr.inr.inr.inr.inl => exact .inl rfl
  all_goals exact .inr ⟨_, by simp [OpensAsR71], rfl⟩

/-- Everything a step can do to the bus trace. -/
theorem step_bus {s t : State} (h : step s = .next t) :
    t.bus = [] ∨ t.bus = s.bus ∨ ∃ e, OpensAsR71 e ∧ t.bus = s.bus ++ [e] := by
  rcases step_by_origin h with ⟨rest, -, rfl⟩ | rfl | ⟨i, he⟩ | ha
  · exact .inl rfl
  · exact .inr (.inl rfl)
  · exact .inr ((exec_bus he).imp_right fun h => ⟨_, by simp [OpensAsR71], h⟩)
  · exact .inr (advance_bus (s := heard s) ha)

/-- Settles O10: a step that opens a session opens it as R71 says, and inside such a session each byte of a frame goes
out bit 7 first. -/
theorem bytesGoMostSignificantBitFirst : Obligations.BytesGoMostSignificantBitFirst := by
  refine ⟨rfl, ?_, bitsSent_frameEvents, by decide, fun s op addr val hq => ⟨?_, ?_⟩⟩
  · intro s t rate order mode h hb
    rcases step_bus h with hn | hs | ⟨e, he, hs⟩
    · simp [hn] at hb
    · simp [hs] at hb
    · obtain rfl : e = .sessionOpen rate order mode := by simpa [hs] using hb
      simpa [openEvent, Config.fSclk, spiMode0] using he rate order mode rfl
  · obtain ⟨u, hu, ht⟩ := sendop_runs hq op
    obtain ⟨sent, hs, hbits⟩ := bitsSent_frameOf .sendop (s.loseRet.latchOp op)
    exact ⟨u, _, sent, hu, ht, hs, hbits.trans (List.append_nil _)⟩
  · obtain ⟨u, hu, ht⟩ := wrreg_runs hq addr val
    obtain ⟨sent, hs, hbits⟩ := bitsSent_frameOf .wrreg ((s.loseRet.latchAddr addr).latchVal val)
    exact ⟨u, _, sent, hu, ht, hs, hbits⟩

end Sys2Proof.Proofs
end

section
/-!
A frame at the reference remote (20_memory.md R35, R44): which command bytes open a read or a write, what a read frame
receives, what a write frame stores, and that the other frames store nothing.
-/

namespace Sys2Proof.Proofs

open Sys2Proof.Machine Sys2Proof.Safety Sys2Proof.Laws

/-! ### Command bytes -/

/-- R56: a selector that neither whole-byte constant has decides what a command byte is. -/
theorem decodeCmd_of_selector {c : Byte} {k : BitVec 3} (h : c.extractLsb' 5 3 = k) (hr : k ≠ 0b001#3)
    (hi : k ≠ 0b000#3) :
    decodeCmd c =
      if k = 0b100#3 then .write (c.extractLsb' 0 5)
      else if k = 0b010#3 then .read (c.extractLsb' 0 5)
      else if k = 0b011#3 then .readResult (c.extractLsb' 0 5)
      else .unknown c := by
  have hpr : c ≠ Config.opcPowerReset := by
    rintro rfl
    exact hr h.symm
  have hin : c ≠ Config.opcInit := by
    rintro rfl
    exact hi h.symm
  rw [decodeCmd, if_neg hpr, if_neg hin, h]

/-- The two fields of a pattern with a zero address field and an address masked to 5 bits (R53). -/
theorem fields_or_masked {k : Byte} (hk : k.extractLsb' 0 5 = 0#5) (a : Byte) :
    (k ||| (a &&& Config.addrMask)).extractLsb' 5 3 = k.extractLsb' 5 3 ∧
    (k ||| (a &&& Config.addrMask)).extractLsb' 0 5 = a.extractLsb' 0 5 := by
  have hones (x : Adr) : x &&& 31#5 = x := BitVec.and_allOnes
  constructor
  all_goals simp [Config.addrMask, BitVec.extractLsb'_or, BitVec.extractLsb'_and, hones, hk]

theorem decodeCmd_encWriteReg (a : Byte) : decodeCmd (encWriteReg a) = .write (a.extractLsb' 0 5) := by
  obtain ⟨hs, ha⟩ := fields_or_masked (k := Config.opcWrite) rfl a
  rw [encWriteReg, decodeCmd_of_selector hs (by decide) (by decide), ha]
  rfl

theorem decodeCmd_encReadReg (a : Byte) : decodeCmd (encReadReg a) = .read (a.extractLsb' 0 5) := by
  obtain ⟨hs, ha⟩ := fields_or_masked (k := Config.opcRead) rfl a
  rw [encReadReg, decodeCmd_of_selector hs (by decide) (by decide), ha]
  rfl

theorem decodeCmd_encWriteConfig : decodeCmd encWriteConfig = .write 0 := rfl
theorem decodeCmd_encReadConfig : decodeCmd encReadConfig = .read 0 := rfl

/-- R55: of a result base bit 7 alone reaches the selector. -/
theorem selector_encReadResult (b : Byte) :
    (encReadResult b).extractLsb' 5 3 = if b.getLsbD 7 then 0b111#3 else 0b011#3 := by
  ext i hi
  interval_cases i
  all_goals cases h : b.getLsbD 7 <;> simp_all [encReadResult, Config.opcReadResult]

/-- R55, R102: a result base with bit 7 set makes a command byte of no kind. -/
theorem decodeCmd_encReadResult (b : Byte) :
    decodeCmd (encReadResult b) =
      if b.getLsbD 7 then .unknown (encReadResult b) else .readResult (b.extractLsb' 0 5) := by
  have ha : (encReadResult b).extractLsb' 0 5 = b.extractLsb' 0 5 := by
    simp [encReadResult, Config.opcReadResult, BitVec.extractLsb'_or]
  have hs := selector_encReadResult b
  split at hs
  · next h => exact (decodeCmd_of_selector hs (by decide) (by decide)).trans (if_pos h).symm
  · next h =>
    rw [if_neg h, ← ha]
    exact decodeCmd_of_selector hs (by decide) (by decide)

theorem toNat_extractLsb'_low (a : Byte) : (a.extractLsb' 0 5).toNat = (a &&& 0x1F).toNat := by
  simpa using (Nat.and_two_pow_sub_one_eq_mod a.toNat 5).symm

/-! ### The remote's memories -/

/-- Inside a frame whose command byte the remote has taken, and which is not a write frame. -/
def NotWriting : Remote → Prop
  | .reference r => r.sel ≠ .none ∧ r.sel ≠ .wr
  | .oracle _ => True
  | .silent _ => True

/-- Inside such a frame an exchange stores nothing and opens no write. -/
theorem exchange_of_notWriting {r : Remote} (h : NotWriting r) (tx : Byte) (n : Nat) :
    NotWriting (r.exchange tx n).2 ∧ regOf (r.exchange tx n).2 = regOf r := by
  cases r with
  | oracle script => cases script <;> exact ⟨trivial, rfl⟩
  | silent z => exact ⟨trivial, rfl⟩
  | reference r =>
    obtain ⟨reg, res, sel, ptr⟩ := r
    cases sel
    case none => exact absurd rfl h.1
    case wr => exact absurd rfl h.2
    all_goals exact ⟨⟨by simp [RefTdc.exchange], by simp [RefTdc.exchange]⟩, rfl⟩

theorem regOf_remoteAfter_of_notWriting (txs : List Byte) (n : Nat) {r : Remote} (h : NotWriting r) :
    regOf (remoteAfter txs n r) = regOf r := by
  induction txs generalizing n r with
  | nil => rfl
  | cons tx txs ih =>
    obtain ⟨hn, hr⟩ := exchange_of_notWriting h tx n
    exact (ih _ hn).trans hr

@[simp] theorem resOf_remoteAfter (txs : List Byte) (n : Nat) (r : Remote) :
    resOf (remoteAfter txs n r) = resOf r := by
  induction txs generalizing n r with
  | nil => rfl
  | cons tx txs ih => simp [remoteAfter, ih]

/-- The command byte of a frame stores nothing, and only a write pattern opens a write (R44). -/
theorem command_exchange (c : Byte) (n : Nat) (r : Remote) :
    regOf (r.onCsAssert.exchange c n).2 = regOf r ∧
    ((∀ a, decodeCmd c ≠ .write a) → NotWriting (r.onCsAssert.exchange c n).2) := by
  cases r with
  | oracle script => cases script <;> exact ⟨rfl, fun _ => trivial⟩
  | silent z => exact ⟨rfl, fun _ => trivial⟩
  | reference r =>
    refine ⟨refTdc_reg_exchange c { r with sel := .none }, fun h => ?_⟩
    simp only [Remote.onCsAssert, Remote.exchange, RefTdc.exchange]
    cases hc : decodeCmd c
    case write a => exact absurd hc (h a)
    all_goals simp [NotWriting]

/-- The primitives that move payload bytes to the remote (R35). -/
def stores : Prim → Bool
  | .wrreg | .wrcfg => true
  | .sendop | .rdreg | .vfycfg | .rdres => false

/-- R57, R58: a primitive that does not store sends no payload, or a command byte that is no write pattern. -/
theorem not_writing_of_not_stores {p : Prim} (h : stores p = false) (s : State) :
    p.payloadLen = 0 ∨ ∀ a, decodeCmd (s.cmdByte p) ≠ .write a := by
  cases p
  case wrreg | wrcfg => exact absurd h Bool.noConfusion
  case sendop => exact .inl rfl
  case rdreg => exact .inr fun a => by simp [State.cmdByte, decodeCmd_encReadReg]
  case vfycfg => exact .inr fun a => by simp [State.cmdByte, decodeCmd_encReadConfig]
  case rdres =>
    refine .inr fun a => ?_
    rw [State.cmdByte, decodeCmd_encReadResult]
    split <;> simp

/-- A frame of a primitive that does not store changes no register, whatever its operand (R35, R44). -/
theorem regOf_frameOf {p : Prim} (h : stores p = false) (s : State) :
    regOf (frameOf p s).remote = regOf s.remote := by
  obtain ⟨hc, hn⟩ := command_exchange (s.cmdByte p) s.draws s.remote
  obtain ⟨-, hr⟩ := frameOf_bus_remote p s
  refine (congrArg regOf hr).trans (Eq.trans ?_ hc)
  rcases not_writing_of_not_stores h s with h | h
  · simp [sentBy, h, remoteAfter]
  · exact regOf_remoteAfter_of_notWriting _ _ (hn h)

/-- No frame changes a byte of the result space (R44). -/
theorem resOf_frameOf (p : Prim) (s : State) : resOf (frameOf p s).remote = resOf s.remote := by
  obtain ⟨-, hr⟩ := frameOf_bus_remote p s
  simp [hr]

theorem remoteAfter_reference (txs : List Byte) (n : Nat) (r : RefTdc) :
    ∃ r', remoteAfter txs n (.reference r) = .reference r' := by
  induction txs generalizing n r with
  | nil => exact ⟨r, rfl⟩
  | cons tx txs ih => exact ih (n + 1) (r.exchange tx).2

/-- A frame of a primitive that does not store leaves a reference remote with its registers. -/
theorem frameOf_reference {p : Prim} {s : State} {r : RefTdc} (hr : s.remote = .reference r) (h : stores p = false) :
    ∃ r', (frameOf p s).remote = .reference r' ∧ r'.reg = r.reg := by
  obtain ⟨r', h'⟩ := remoteAfter_reference (sentBy p s) s.draws { r with sel := .none }
  have hf : (frameOf p s).remote = .reference r' := by
    rw [(frameOf_bus_remote p s).2, hr]
    exact h'
  have hreg := regOf_frameOf h s
  rw [hf, hr] at hreg
  exact ⟨r', hf, hreg⟩

/-! ### What a read frame receives -/

/-- The memory a read frame reads (R44). -/
def readSpace (r : RefTdc) : Memory := if r.sel = .rd then r.reg else r.res

theorem refTdc_exchange_reading {r : RefTdc} (h : r.sel = .rd ∨ r.sel = .res) (tx : Byte) :
    r.exchange tx = ((readSpace r).read r.ptr.toNat, { r with ptr := r.ptr + 1 }) := by
  rcases h with h | h <;> simp [RefTdc.exchange, readSpace, h]

/-- A read frame answers with the bytes from the pointer on, which wraps modulo 32. -/
theorem received_reading {r : RefTdc} (h : r.sel = .rd ∨ r.sel = .res) (txs : List Byte) (n : Nat) :
    received txs n (.reference r) =
      (List.range txs.length).map (fun j => (readSpace r).read ((r.ptr.toNat + j) % 32)) := by
  induction txs generalizing n r with
  | nil => rfl
  | cons tx txs ih =>
    have hp : r.ptr.toNat % 32 = r.ptr.toNat := Nat.mod_eq_of_lt r.ptr.isLt
    simp only [received, Remote.exchange, refTdc_exchange_reading h, List.length_cons, List.range_succ_eq_map,
      List.map_cons, List.map_map, Nat.add_zero, hp]
    rw [ih (r := { r with ptr := r.ptr + 1 }) h]
    congr 1
    refine List.map_congr_left fun j _ => ?_
    have hj : ((r.ptr + 1).toNat + j) % 32 = (r.ptr.toNat + (j + 1)) % 32 := by
      simp [BitVec.toNat_add, Nat.add_assoc, Nat.add_comm 1 j]
    exact congrArg (readSpace r).read hj

section
variable {p : Prim} {s : State} {r : RefTdc} (hr : s.remote = .reference r)
include hr

/-- A frame that opens a register read receives the registers from its address on. -/
theorem answersTo_read {a : Adr} (hc : decodeCmd (s.cmdByte p) = .read a) :
    answersTo p s = 0 :: (List.range p.payloadLen).map (fun j => r.reg.read ((a.toNat + j) % 32)) := by
  simp only [answersTo, sentBy, received, hr, Remote.onCsAssert, Remote.exchange, RefTdc.exchange, hc]
  simp [received_reading, readSpace]

/-- A frame that opens a result read receives the result bytes from its base on. -/
theorem answersTo_readResult {a : Adr} (hc : decodeCmd (s.cmdByte p) = .readResult a) :
    answersTo p s = 0 :: (List.range p.payloadLen).map (fun j => r.res.read ((a.toNat + j) % 32)) := by
  simp only [answersTo, sentBy, received, hr, Remote.onCsAssert, Remote.exchange, RefTdc.exchange, hc]
  simp [received_reading, readSpace]

end

/-! ### What a write frame stores -/

/-- A write frame stores its payload from the pointer on, and no other register changes; here it does not wrap. -/
theorem remoteAfter_writing (txs : List Byte) (n k : Nat) {r : RefTdc} (hs : r.sel = .wr) (hwf : r.reg.wf = true)
    (hk : r.ptr = BitVec.ofNat 5 k) (hl : k + txs.length ≤ 32) :
    ∃ r', remoteAfter txs n (.reference r) = .reference r' ∧ r'.reg.wf = true ∧
      ∀ x, r'.reg.read x = if k ≤ x ∧ x < k + txs.length then txs.getD (x - k) 0 else r.reg.read x := by
  induction txs generalizing n k r with
  | nil => exact ⟨r, rfl, hwf, fun x => (if_neg (by simp)).symm⟩
  | cons tx txs ih =>
    rw [List.length_cons] at hl
    have hp : r.ptr.toNat = k := by simp [hk]; omega
    have he : ((Remote.reference r).exchange tx n).2 =
        .reference { r with reg := r.reg.write k tx, ptr := r.ptr + 1 } := by
      simp [Remote.exchange, RefTdc.exchange, hs, hp]
    have hwf' : (r.reg.write k tx).wf = true := wf_write hwf (by omega) tx
    obtain ⟨r', h, hwf'', hread⟩ := ih (n + 1) (k + 1) (r := { r with reg := r.reg.write k tx, ptr := r.ptr + 1 })
      hs hwf' (by simp [hk, BitVec.ofNat_add]) (by omega)
    refine ⟨r', by rw [remoteAfter, he, h], hwf'', fun x => ?_⟩
    rw [hread x, read_write hwf, List.length_cons]
    rcases Nat.lt_trichotomy x k with hx | rfl | hx
    · rw [if_neg (by omega), if_neg (by omega), if_neg (by omega)]
    · rw [if_neg (by omega), if_pos rfl, if_pos (by omega), Nat.sub_self]
      rfl
    · obtain ⟨d, rfl⟩ := Nat.exists_eq_add_of_lt hx
      rw [if_neg (c := k + d + 1 = k) (by omega), show k + d + 1 - k = d + 1 by omega,
        show k + d + 1 - (k + 1) = d by omega, List.getD_cons_succ]
      exact if_congr (by omega) rfl rfl

/-- A frame that opens a write stores its payload in the registers from its address on. -/
theorem frameOf_writing {p : Prim} {s : State} {r : RefTdc} {a : Adr} (hr : s.remote = .reference r)
    (hwf : r.reg.wf = true) (hc : decodeCmd (s.cmdByte p) = .write a) (hl : a.toNat + p.payloadLen ≤ 32) :
    ∃ r', (frameOf p s).remote = .reference r' ∧ r'.reg.wf = true ∧
      ∀ x, r'.reg.read x =
        if a.toNat ≤ x ∧ x < a.toNat + p.payloadLen then txOf p s (x - a.toNat) else r.reg.read x := by
  obtain ⟨r', h, hwf', hread⟩ := remoteAfter_writing ((List.range p.payloadLen).map (txOf p s)) (s.draws + 1) a.toNat
    (r := { r with sel := .wr, ptr := a }) rfl hwf (by simp) (by simpa using hl)
  refine ⟨r', ?_, hwf', fun x => ?_⟩
  · rw [(frameOf_bus_remote p s).2, ← h]
    simp [sentBy, remoteAfter, hr, Remote.onCsAssert, Remote.exchange, RefTdc.exchange, hc]
  · rw [hread x]
    simp only [List.length_map, List.length_range]
    split
    · next hx => simp [show x - a.toNat < p.payloadLen by omega]
    · rfl

/-- R90 with R44: a bulk write leaves `CFG` in registers 0..16. -/
theorem frameOf_wrcfg_reference {s : State} {r : RefTdc} (hr : s.remote = .reference r) (hwf : r.reg.wf = true) :
    ∃ r', (frameOf .wrcfg s).remote = .reference r' ∧ r'.reg.wf = true ∧
      ∀ x, r'.reg.read x = if x < 17 then cfgByte s.cfg x else r.reg.read x := by
  obtain ⟨r', h, hwf', hread⟩ := frameOf_writing (p := .wrcfg) hr hwf decodeCmd_encWriteConfig (by decide)
  exact ⟨r', h, hwf', fun x => (hread x).trans (if_congr (by simp [Prim.payloadLen]) rfl rfl)⟩

/-! ### A verify of what is stored -/

/-- A verify loop that receives what it expects writes neither `present` nor a record (R93, R94). -/
theorem procPayload_verify_matches (tx : Nat → Byte) (k : Nat) {s : State}
    (h : received ((List.range' s.idx k).map tx) s.draws s.remote = (List.range' s.idx k).map (cfgByte s.cfg)) :
    (procPayload tx State.verifyByte k s).present = s.present ∧
    (procPayload tx State.verifyByte k s).diag = s.diag := by
  induction k generalizing s with
  | zero => exact ⟨rfl, rfl⟩
  | succ k ih =>
    obtain ⟨hb, hrest⟩ := List.cons.inj h
    obtain ⟨hp, hd⟩ := ih (s := { (s.exchange (tx s.idx)).verifyByte with idx := s.idx + 1 }) hrest
    exact ⟨hp.trans (if_pos hb), hd.trans (if_pos hb)⟩

/-- A verify of a reference remote that holds `CFG` in registers 0..16 finds no difference (R97). -/
theorem frameOf_vfycfg_matches {s : State} {r : RefTdc} (hr : s.remote = .reference r)
    (hreg : ∀ i, i < 17 → r.reg.read i = cfgByte s.cfg i) :
    (frameOf .vfycfg s).present = s.present ∧ (frameOf .vfycfg s).diag = s.diag := by
  refine procPayload_verify_matches (txOf .vfycfg s) 17
    (s := { (procBegin s).exchange (s.cmdByte .vfycfg) with idx := 0 }) ?_
  have h := answersTo_read (p := .vfycfg) hr decodeCmd_encReadConfig
  refine (List.cons.inj h).2.trans (List.map_congr_left fun j hj => ?_)
  have hj : j < 17 := List.mem_range.1 hj
  rw [show (0 : Adr).toNat = 0 from rfl, Nat.zero_add, Nat.mod_eq_of_lt (by omega)]
  exact hreg j hj

end Sys2Proof.Proofs
end

section
/-!
What the primitives store in and read from the reference remote (20_memory.md R35, R44, 42_bulk_config.md R97).
-/

namespace Sys2Proof.Proofs

open Sys2Proof.Machine Sys2Proof.Safety Sys2Proof.Laws

/-! ### Operations that store nothing -/

theorem sameMemory_answered {p : Prim} {s l : State} (h : stores p = false) (hr : l.remote = s.remote) :
    SameMemory s (answered p l) := by
  intro a
  simp [regOf_frameOf h, resOf_frameOf, hr]

/-- Settles O46: the command byte of the four frames opens no write, or no payload follows it; the accessors touch no
remote. -/
theorem readingOperationsStoreNothing : Obligations.ReadingOperationsStoreNothing := by
  intro s hq
  refine ⟨fun op => ?_, fun addr => ?_, fun cfg => ?_, fun base => ?_, ?_, ?_⟩
  · obtain ⟨u, hu, ht⟩ := sendop_runs hq op
    exact ⟨u, _, hu, ht, sameMemory_answered rfl rfl⟩
  · obtain ⟨u, hu, ht⟩ := rdreg_runs hq addr
    exact ⟨u, _, hu, ht, sameMemory_answered rfl rfl⟩
  · obtain ⟨u, hu, ht⟩ := vfycfg_runs hq cfg
    exact ⟨u, _, hu, ht, sameMemory_answered rfl rfl⟩
  · obtain ⟨u, hu, ht⟩ := rdres_runs hq base
    exact ⟨u, _, hu, ht, sameMemory_answered rfl rfl⟩
  · exact ⟨_, issueAccessor_of_quiet hq _, fun _ => ⟨rfl, rfl⟩⟩
  · exact ⟨_, issueAccessor_of_quiet hq _, fun _ => ⟨rfl, rfl⟩⟩

/-! ### What the reading operations read -/

/-- What a register read returns is the one payload byte received. -/
theorem answersTo_rdreg (s : State) : ∃ b, answersTo .rdreg s = [b, (frameOf .rdreg s).rdata] := ⟨_, rfl⟩

/-- R101: the accumulator, started at zero, assembles the three payload bytes received. -/
theorem answersTo_rdres {s : State} (h : s.acc = 0) :
    ∃ c b0 b1 b2, answersTo .rdres s = [c, b0, b1, b2] ∧ (frameOf .rdres s).acc = assemble b0 b1 b2 := by
  have hacc (b0 b1 b2 : Byte) :
      ((s.acc <<< 8 ||| b0.setWidth 24) <<< 8 ||| b1.setWidth 24) <<< 8 ||| b2.setWidth 24 = assemble b0 b1 b2 := by
    simp [h, assemble, BitVec.shiftLeft_or_distrib, ← BitVec.shiftLeft_add]
  exact ⟨_, _, _, _, rfl, hacc _ _ _⟩

/-- Settles O45: by the bytes a read frame receives from the reference remote. -/
theorem readsReturnTheRemotesBytes : Obligations.ReadsReturnTheRemotesBytes := by
  intro s r hq hr
  refine ⟨fun addr => ?_, fun base hb => ?_⟩
  · obtain ⟨u, hu, ht⟩ := rdreg_runs hq addr
    refine ⟨u, _, hu, ht, ?_, sameMemory_answered rfl rfl⟩
    obtain ⟨b, h⟩ := answersTo_rdreg (s.loseRet.latchAddr addr)
    rw [answersTo_read (p := .rdreg) (s := s.loseRet.latchAddr addr) hr (decodeCmd_encReadReg addr)] at h
    obtain ⟨-, hd⟩ := List.cons.inj h
    have hm := Nat.mod_eq_of_lt (addr.extractLsb' 0 5).isLt
    simp only [Prim.payloadLen, List.range_one, List.map_singleton, List.singleton_inj, Nat.add_zero, hm] at hd
    rw [answered_rets, State.result, ← hd, toNat_extractLsb'_low]
    rfl
  · obtain ⟨u, hu, ht⟩ := rdres_runs hq base
    refine ⟨u, _, hu, ht, ?_, sameMemory_answered rfl rfl⟩
    obtain ⟨c, b0, b1, b2, h, hacc⟩ := answersTo_rdres (s := (s.loseRet.latchBase base).clearAcc) rfl
    have hc : decodeCmd (encReadResult base) = .readResult (base.extractLsb' 0 5) := by
      rw [decodeCmd_encReadResult, hb]
      rfl
    rw [answersTo_readResult (p := .rdres) (s := (s.loseRet.latchBase base).clearAcc) hr hc] at h
    obtain ⟨-, rfl, rfl, rfl⟩ : 0 = c ∧ r.res.read (base.toNat % 32) = b0 ∧
        r.res.read ((base.toNat + 1) % 32) = b1 ∧ r.res.read ((base.toNat + 2) % 32) = b2 := by
      simpa [Prim.payloadLen, List.range_succ] using h
    rw [answered_rets, State.result, hacc]
    rfl

/-! ### What the storing operations store -/

theorem resOf_answered_read {p : Prim} {l : State} {r : RefTdc} (hl : l.remote = .reference r) (x : Nat) :
    (resOf (answered p l).remote).read x = r.res.read x := by
  rw [answered_remote, resOf_frameOf, hl]
  rfl

/-- Settles O44: by what a write frame stores, from the address in its command byte on. -/
theorem storesReachTheirRegistersOnly : Obligations.StoresReachTheirRegistersOnly := by
  intro s r hq hr hwf
  refine ⟨fun addr val => ?_, fun cfg => ?_⟩
  · obtain ⟨u, hu, ht⟩ := wrreg_runs hq addr val
    obtain ⟨r', h, -, hread⟩ := frameOf_writing (p := .wrreg) (s := (s.loseRet.latchAddr addr).latchVal val) hr hwf
      (decodeCmd_encWriteReg addr) (Nat.succ_le_of_lt (addr.extractLsb' 0 5).isLt)
    refine ⟨u, _, hu, ht, fun x => ?_, resOf_answered_read hr⟩
    rw [answered_remote, h]
    refine (hread x).trans (if_congr ?_ rfl rfl)
    rw [toNat_extractLsb'_low]
    simp only [Prim.payloadLen]
    omega
  · obtain ⟨u, hu, ht⟩ := wrcfg_runs hq cfg
    obtain ⟨r', h, -, hread⟩ := frameOf_wrcfg_reference (s := s.loseRet.latchCfg cfg) hr hwf
    refine ⟨u, _, hu, ht, fun x => ?_, resOf_answered_read hr⟩
    rw [answered_remote, h]
    exact hread x

/-! ### Write, then verify -/

/-- A frame is one window, with its exchanges inside (R70). -/
theorem counts_append_frameEvents (bus : List BusEvent) (xs : List (Byte × Byte)) :
    xferCount (bus ++ frameEvents xs) = xferCount bus + xs.length ∧
    frameCount (bus ++ frameEvents xs) = frameCount bus + 1 := by
  have hx : (xs.map (fun e => BusEvent.xfer e.1 e.2)).filter isXfer = xs.map (fun e => BusEvent.xfer e.1 e.2) := by
    refine List.filter_eq_self.2 fun e he => ?_
    obtain ⟨x, -, rfl⟩ := List.mem_map.1 he
    rfl
  have hc : (xs.map (fun e => BusEvent.xfer e.1 e.2)).count .csAssert = 0 := by
    simp [List.count_eq_zero]
  constructor
  · simp [xferCount, frameEvents, hx, isXfer, openEvent]
  · simp [frameCount, frameEvents, hc, openEvent]

/-- R76 (e): a frame of `p` is one window of `payloadLen + 1` exchanges. -/
theorem counts_frameOf (p : Prim) (s : State) :
    xferCount (frameOf p s).bus = xferCount s.bus + (p.payloadLen + 1) ∧
    frameCount (frameOf p s).bus = frameCount s.bus + 1 := by
  rw [(frameOf_bus_remote p s).1]
  simpa [answersTo, sentBy] using counts_append_frameEvents s.bus ((sentBy p s).zip (answersTo p s))

/-- Against a reference remote that holds `p`, VFYCFG `p` answers `true` with no record (R97). -/
theorem vfycfg_runs_matching {s : State} (hq : Quiet s) {r : RefTdc} (p : Cfg) (hr : s.remote = .reference r)
    (hreg : ∀ i, i < 17 → r.reg.read i = cfgByte p i) :
    ∃ u t, exec (.vfycfg p.toList) s = .next u ∧ after 21 u = .next t ∧ t.present = true ∧ t.ret = 1 ∧
      t.rets = s.rets ++ [.bool true] ∧ t.diag = s.diag ∧ xferCount t.bus = xferCount s.bus + 18 ∧
      frameCount t.bus = frameCount s.bus + 1 := by
  obtain ⟨u, hu, ht⟩ := vfycfg_runs hq p
  obtain ⟨hp, hd⟩ := frameOf_vfycfg_matches (s := (s.loseRet.latchCfg p).verifyStart) hr hreg
  obtain ⟨hx, hf⟩ := counts_frameOf .vfycfg (s.loseRet.latchCfg p).verifyStart
  refine ⟨u, _, hu, ht, hp, ?_, ?_, hd, hx, hf⟩
  · simp [answered, State.result, hp, RetVal.word]
  · simp [State.result, hp]

/-- Settles O43: what WRCFG stores is what VFYCFG then receives. -/
theorem writeThenVerifyUnderReferenceRemote : Obligations.WriteThenVerifyUnderReferenceRemote := by
  intro s p r hq hr hwf
  obtain ⟨u, hu, ht⟩ := wrcfg_runs hq p
  obtain ⟨r', h, -, hread⟩ := frameOf_wrcfg_reference (s := s.loseRet.latchCfg p) hr hwf
  obtain ⟨-, hd⟩ := frameOf_present_diag (p := .wrcfg) (by simp) (s.loseRet.latchCfg p)
  obtain ⟨hx, hf⟩ := counts_frameOf .wrcfg (s.loseRet.latchCfg p)
  obtain ⟨-, hws, hin⟩ := hq
  obtain ⟨v, w, hv, hw, hp, hret, hrets, hd', hx', hf'⟩ := vfycfg_runs_matching
    (quiet_answered .wrcfg (s := s.loseRet.latchCfg p) hws hin) p h (fun i hi => (hread i).trans (if_pos hi))
  refine ⟨u, _, v, w, hu, ht, hv, hw, hp, hret, ?_, hd'.trans hd, ?_, ?_⟩
  · simp [hrets, State.result]
  · rw [hx', answered_bus, hx]
    rfl
  · rw [hf', answered_bus, hf]
    rfl

end Sys2Proof.Proofs
end

section
/-!
The workflows against the procedures of R107 (44_configure_workflows.md R107, R108, R111), and their success under the
reference remote (20_memory.md R44).
-/

namespace Sys2Proof.Proofs

open Sys2Proof.Machine Sys2Proof.Safety Sys2Proof.Laws

/-! ### The procedures of R107 in terms of their frames -/

/-- The engine with the latches of an accepted workflow (R106, R111). -/
def workflowLatched (m : Channels) (s : State) : State :=
  { s.loseRet with wsel := m, cfg := s.preset m, op := Config.opcPowerReset }

/-- The engine after POWER_RESET and its settle (R107 steps 1 and 2). -/
def afterPowerReset (m : Channels) (s : State) : State :=
  (frameOf .sendop (workflowLatched m s)).emit (.wait Config.tSettleReset)

theorem procOpening_eq (m : Channels) (s : State) :
    procOpening m s = { frameOf .wrcfg (afterPowerReset m s) with wstep := .wVerify } := rfl

theorem procVerify_eq (s : State) : procVerify s = frameOf .vfycfg s.verifyStart := rfl

@[simp] theorem procVerify_inputs (s : State) : (procVerify s).inputs = s.inputs := by simp [procVerify_eq]
@[simp] theorem procVerify_wsel (s : State) : (procVerify s).wsel = s.wsel := by simp [procVerify_eq]

theorem procRound_of_present {s : State} (h : (procVerify s).present = true) :
    procRound s = { procVerify s with wstep := .wInit } := if_pos h

/-- The end of a workflow after INIT_START (R107 steps 11 to 13). -/
def settledAndFinished (s : State) : State :=
  ({ s.emit (.wait Config.tSettleInit) with mode := s.wsel.toMode, wstep := .wNone } : State).reply (.bool true)

theorem procClosing_eq (s : State) :
    procClosing s = settledAndFinished (frameOf .sendop (s.latchOp Config.opcInit)) := by
  rw [settledAndFinished, frameOf_wsel]
  rfl

/-! ### The steps of a workflow -/

/-- The payload loop does not look at `wstep`. -/
theorem procPayload_wstep (tx : Nat → Byte) (p : Prim) (w : WStep) (k : Nat) (s : State) :
    procPayload tx (State.onPayload · p) k { s with wstep := w } =
      { procPayload tx (State.onPayload · p) k s with wstep := w } := by
  induction k generalizing s with
  | zero => rfl
  | succ k ih =>
    simp only [procPayload]
    rw [← ih]
    cases p <;> rfl

/-- A frame is the same in every step of a workflow and outside (log entry 19). -/
theorem frameOf_withWstep (p : Prim) (w : WStep) (s : State) :
    frameOf p { s with wstep := w } = { frameOf p s with wstep := w } := by
  have hc : ({ s with wstep := w } : State).cmdByte p = s.cmdByte p := by cases p <;> rfl
  have ht : txOf p { s with wstep := w } = txOf p s := by cases p <;> rfl
  rw [frameOf, hc, ht]
  exact congrArg procEnd
    (procPayload_wstep (txOf p s) p w p.payloadLen { (procBegin s).exchange (s.cmdByte p) with idx := 0 })

/-- The wire row a workflow step calls for begins its frame (R111). -/
theorem runFrame_of_workflowFrame {i : Instr} {s : State} (hw : workflowFrame s = some i) (p : Prim)
    (latch : State → State) : runFrame i p latch s = .next ((latch s).startFrame p) := by
  have hidle : s.isIdle = false := by
    obtain ⟨-, ⟨h, -⟩ | ⟨h, -⟩ | ⟨h, -⟩ | ⟨h, -⟩⟩ := workflowFrame_cases hw
    all_goals simp [State.isIdle, h]
  simp [runFrame, hidle, hw]

/-- A workflow step that runs a frame, from its start to the next step (R111). -/
theorem after_workflow_step {s : State} {i : Instr} {p : Prim} {latch : State → State} {w : WStep}
    (hin : s.inputs = []) (hi : workflowFrame s = some i) (he : exec i s = runFrame i p latch s)
    (hl : (latch s).inputs = s.inputs) (hlw : (latch s).wstep = s.wstep) (hw : s.wstep ≠ .wNone)
    (hn : s.wstep.afterFrame (frameOf p (latch s)).present = some w) :
    after (p.payloadLen + 5) s = .next { frameOf p (latch s) with wstep := w } := by
  refine after_step ?_ (after_workflow_frame p (latch s) w (hl.trans hin) (hlw ▸ hw) (hlw ▸ hn))
  rw [step_eq_exec hin hi, he, runFrame_of_workflowFrame hi]

/-- A workflow step that waits: the event, and the next step (R111, R130). -/
theorem after_workflow_wait {s : State} {d : Nat} {w : WStep} (hin : s.inputs = []) (hp : s.phase = .idle)
    (hd : s.wstep.wait = some d) (hw : s.wstep.afterWait = some w) :
    after 2 s = .next { s.emit (.wait d) with wstep := w } := by
  have hwf : workflowFrame s = none := by
    rcases afterWait_cases hw with ⟨h, -⟩ | ⟨h, -⟩ | ⟨h, -⟩
    all_goals simp [workflowFrame, hp, h]
  have h1 : step s = .next (s.enterWait d) := by
    rw [step_eq_advance hin hwf]
    rcases afterWait_cases hw with ⟨h, -⟩ | ⟨h, -⟩ | ⟨h, -⟩
    all_goals simp_all [advance, WStep.wait]
  refine after_step h1 (after_one ?_)
  rw [step_in_frame (s := s.enterWait d) hin (by simp)]
  simp only [advance, enterWait_phase, enterWait_wstep, hw]
  rw [← hp]
  rfl

theorem workflowLatched_inputs (m : Channels) (s : State) : (workflowLatched m s).inputs = s.inputs := rfl

theorem afterPowerReset_inputs (m : Channels) (s : State) : (afterPowerReset m s).inputs = s.inputs := by
  simp [afterPowerReset, workflowLatched_inputs]

theorem procOpening_inputs (m : Channels) (s : State) : (procOpening m s).inputs = s.inputs := by
  simp [procOpening_eq, afterPowerReset_inputs]

/-- R107 steps 1 to 3: the accepted workflow reaches its first verify. -/
theorem issueWorkflow_opens {s : State} (hq : Quiet s) (m : Channels) :
    ∃ u, issueWorkflow m s = .next u ∧ after 29 u = .next (procOpening m s) := by
  obtain ⟨hph, hws, hin⟩ := hq
  have hin1 : (frameOf .sendop (workflowLatched m s)).inputs = [] := (frameOf_inputs ..).trans hin
  have hin2 : (afterPowerReset m s).inputs = [] := (afterPowerReset_inputs m s).trans hin
  refine ⟨{ workflowLatched m s with wstep := .wReset },
    by simp [issueWorkflow, State.busy, isIdle_iff.2 ⟨hph, hws⟩, workflowLatched], ?_⟩
  have h1 : after 5 { workflowLatched m s with wstep := .wReset } =
      .next { frameOf .sendop (workflowLatched m s) with wstep := .wResetSettle } := by
    refine (after_workflow_step (s := { workflowLatched m s with wstep := .wReset }) (i := .powerReset) (p := .sendop)
      (latch := State.latchOp Config.opcPowerReset) hin (if_pos hph) rfl rfl rfl WStep.noConfusion rfl).trans ?_
    exact congrArg (fun u : State => Host.Outcome.next { u with wstep := .wResetSettle })
      (frameOf_withWstep .sendop .wReset (workflowLatched m s))
  have h2 : after 2 { frameOf .sendop (workflowLatched m s) with wstep := .wResetSettle } =
      .next { afterPowerReset m s with wstep := .wWrite } := after_workflow_wait hin1 rfl rfl rfl
  have h3 : after 22 { afterPowerReset m s with wstep := .wWrite } = .next (procOpening m s) := by
    refine (after_workflow_step (s := { afterPowerReset m s with wstep := .wWrite })
      (i := .writeConfig (afterPowerReset m s).cfg.toList) (p := .wrcfg)
      (latch := State.latchCfg (afterPowerReset m s).cfg) hin2 rfl
      (by simp [exec, execWriteConfig, cfgOfList_toList]) rfl rfl WStep.noConfusion rfl).trans ?_
    exact congrArg (fun u : State => Host.Outcome.next { u with wstep := .wVerify })
      (frameOf_withWstep .wrcfg .wWrite (afterPowerReset m s))
  exact after_trans h1 (after_trans h2 h3)

/-- R107 steps 5 to 9 when the verify succeeds (R108). -/
theorem after_successful_round {s : State} (hp : s.phase = .idle) (hw : s.wstep = .wVerify) (hin : s.inputs = [])
    (h : (procVerify s).present = true) : after 22 s = .next (procRound s) := by
  rw [procRound_of_present h]
  exact after_workflow_step (p := .vfycfg) (latch := State.verifyStart) hin (i := .readConfig)
    (by simp [workflowFrame, hp, hw]) rfl rfl rfl (by simp [hw]) (by rw [hw, ← procVerify_eq, h]; rfl)

/-- The settle after INIT_START and the finish (R107 steps 11 to 13, R110). -/
theorem after_settle_and_finish {s : State} (hin : s.inputs = []) (hp : s.phase = .idle) :
    after 3 { s with wstep := .wInitSettle } = .next (settledAndFinished s) := by
  have h : after 2 { s with wstep := .wInitSettle } =
      .next { s.emit (.wait Config.tSettleInit) with wstep := .wFinish } := after_workflow_wait hin hp rfl rfl
  refine after_trans h (after_one ?_)
  refine (step_eq_advance (s := { s.emit (.wait Config.tSettleInit) with wstep := .wFinish }) hin (if_pos hp)).trans ?_
  simp [advance, hp, State.finish, settledAndFinished]

/-- R107 steps 10 to 13, R110. -/
theorem after_closing {s : State} (hp : s.phase = .idle) (hw : s.wstep = .wInit) (hin : s.inputs = []) :
    after 8 s = .next (procClosing s) := by
  have h : after 5 s = .next { frameOf .sendop (s.latchOp Config.opcInit) with wstep := .wInitSettle } :=
    after_workflow_step (p := .sendop) (latch := State.latchOp Config.opcInit) hin (i := .initStart)
      (by simp [workflowFrame, hp, hw]) rfl rfl rfl (by simp [hw]) (by rw [hw]; rfl)
  rw [procClosing_eq]
  exact after_trans h (after_settle_and_finish ((frameOf_inputs ..).trans hin) rfl)

/-- R107 for a workflow whose first verify round succeeds. -/
theorem issueWorkflow_succeeds {s : State} (hq : Quiet s) (m : Channels)
    (h : (procVerify (procOpening m s)).present = true) :
    ∃ u, issueWorkflow m s = .next u ∧ after 59 u = .next (procClosing (procRound (procOpening m s))) := by
  obtain ⟨u, hu, hopen⟩ := issueWorkflow_opens hq m
  obtain ⟨-, -, hin⟩ := hq
  replace hin : (procOpening m s).inputs = [] := (procOpening_inputs m s).trans hin
  have hround : after 22 (procOpening m s) = .next (procRound (procOpening m s)) :=
    after_successful_round rfl rfl hin h
  have hclose : after 8 (procRound (procOpening m s)) = .next (procClosing (procRound (procOpening m s))) := by
    rw [procRound_of_present h]
    have hin' : (procVerify (procOpening m s)).inputs = [] := (procVerify_inputs _).trans hin
    exact after_closing rfl rfl hin'
  exact ⟨u, hu, after_trans (after_trans hopen hround) hclose⟩

/-! ### Under the reference remote -/

/-- The opening of a workflow stores its preset in registers 0..16 (R107 step 3). -/
theorem procOpening_reference {s : State} {r : RefTdc} (m : Channels) (hr : s.remote = .reference r)
    (hwf : r.reg.wf = true) :
    ∃ r', (procOpening m s).remote = .reference r' ∧
      ∀ x, r'.reg.read x = if x < 17 then cfgByte (s.preset m) x else r.reg.read x := by
  obtain ⟨r₁, h₁, hreg⟩ := frameOf_reference (p := .sendop) (s := workflowLatched m s) hr rfl
  obtain ⟨r₂, h₂, -, hread⟩ := frameOf_wrcfg_reference (s := afterPowerReset m s) h₁ (hreg ▸ hwf)
  exact ⟨r₂, h₂, fun x => hreg ▸ hread x⟩

/-- Beside the registers the opening leaves alone what its two frames do, and the latches stay as accepted. -/
theorem procOpening_kept (m : Channels) (s : State) :
    (procOpening m s).cfg = s.preset m ∧ (procOpening m s).wsel = m ∧ (procOpening m s).diag = s.diag ∧
    resOf (procOpening m s).remote = resOf s.remote := by
  have hd : (frameOf .wrcfg (afterPowerReset m s)).diag = s.diag :=
    ((frameOf_present_diag (by simp) _).2).trans (frameOf_present_diag (by simp) _).2
  rw [procOpening_eq]
  refine ⟨?_, ?_, hd, ?_⟩
  all_goals simp [afterPowerReset, workflowLatched, resOf_frameOf]

/-- A verify round of a reference remote that holds `CFG` succeeds, with no record (R97, R107). -/
theorem procVerify_matches {s : State} {r : RefTdc} (hr : s.remote = .reference r)
    (hreg : ∀ i, i < 17 → r.reg.read i = cfgByte s.cfg i) :
    (procVerify s).present = true ∧ (procVerify s).diag = s.diag :=
  frameOf_vfycfg_matches (s := s.verifyStart) hr hreg

/-- A successful round moves the workflow on, and beside it leaves what its verify frame does (R107, R108). -/
theorem procRound_kept {s : State} (h : (procVerify s).present = true) :
    (procRound s).present = true ∧ (procRound s).wsel = s.wsel ∧ (procRound s).diag = (procVerify s).diag ∧
    regOf (procRound s).remote = regOf s.remote ∧ resOf (procRound s).remote = resOf s.remote := by
  have hreg : regOf (procVerify s).remote = regOf s.remote :=
    regOf_frameOf (p := .vfycfg) rfl s.verifyStart
  have hres : resOf (procVerify s).remote = resOf s.remote := resOf_frameOf .vfycfg s.verifyStart
  simp [procRound_of_present h, h, hreg, hres]

/-- The closing of a workflow stores nothing and writes `mode` and `RET` (R107, R110). -/
theorem procClosing_kept (s : State) :
    (procClosing s).present = s.present ∧ (procClosing s).mode = s.wsel.toMode ∧ (procClosing s).ret = 1 ∧
    (procClosing s).diag = s.diag ∧ regOf (procClosing s).remote = regOf s.remote ∧
    resOf (procClosing s).remote = resOf s.remote := by
  obtain ⟨hp, hd⟩ := frameOf_present_diag (p := .sendop) (by simp) (s.latchOp Config.opcInit)
  have hreg : regOf (frameOf .sendop (s.latchOp Config.opcInit)).remote = regOf s.remote :=
    regOf_frameOf (p := .sendop) rfl (s.latchOp Config.opcInit)
  simp [procClosing_eq, settledAndFinished, hp, hd, hreg, resOf_frameOf, RetVal.word]

/-- Settles O36: the opening stores the preset, so the first round finds it, and the closing stores nothing. -/
theorem workflowSucceedsUnderReferenceRemote : Obligations.WorkflowSucceedsUnderReferenceRemote := by
  intro m s r hq hr hwf
  obtain ⟨r', hr', hread⟩ := procOpening_reference m hr hwf
  obtain ⟨hcfg, hwsel, hdiag, hres⟩ := procOpening_kept m s
  obtain ⟨hp, hd⟩ := procVerify_matches hr' fun i hi => by rw [hread i, if_pos hi, hcfg]
  obtain ⟨u, hu, hrun⟩ := issueWorkflow_succeeds hq m hp
  obtain ⟨hp', hwsel', hdiag', hreg', hres'⟩ := procRound_kept hp
  obtain ⟨hp'', hmode, hret, hdiag'', hreg'', hres''⟩ := procClosing_kept (procRound (procOpening m s))
  have hregs : regOf (procClosing (procRound (procOpening m s))).remote = r'.reg := by rw [hreg'', hreg', hr']; rfl
  refine ⟨u, _, by cases m <;> exact hu, hrun, rfl, hp''.trans hp', by rw [hmode, hwsel', hwsel], hret,
    ((hdiag''.trans hdiag').trans hd).trans hdiag, fun i hi => ?_, fun i hi => ?_, ?_⟩
  · rw [hregs, hread i, if_pos hi]
  · rw [hregs, hread i, if_neg (Nat.not_lt.2 hi)]
  · rw [hres'', hres', hres, hr]
    rfl

end Sys2Proof.Proofs
end

section
/-!
Command bytes (30_encoding.md R53 to R57, R63): the encoders as selector and address field, the classifier by ranges of
the byte.
-/

namespace Sys2Proof.Proofs

open Sys2Proof.Machine Sys2Proof.Safety Sys2Proof.Laws

/-! ### The encoders -/

/-- A command byte is its selector and its address field (R50). -/
theorem eq_append_of_fields {c : Byte} {k : BitVec 3} {a : Adr} (hk : c.extractLsb' 5 3 = k)
    (ha : c.extractLsb' 0 5 = a) : c = k ++ a := by
  subst hk ha
  symm
  exact BitVec.extractLsb'_append_extractLsb'

theorem encWriteReg_eq_append (a : Byte) : encWriteReg a = 0b100#3 ++ a.extractLsb' 0 5 := by
  obtain ⟨hk, ha⟩ := fields_or_masked (k := Config.opcWrite) rfl a
  exact eq_append_of_fields hk ha

theorem encReadReg_eq_append (a : Byte) : encReadReg a = 0b010#3 ++ a.extractLsb' 0 5 := by
  obtain ⟨hk, ha⟩ := fields_or_masked (k := Config.opcRead) rfl a
  exact eq_append_of_fields hk ha

/-- The address field has period 32. -/
theorem address_field_add_32 (a : Byte) : (a + 32).extractLsb' 0 5 = a.extractLsb' 0 5 := by
  apply BitVec.eq_of_toNat_eq
  simp only [BitVec.extractLsb'_toNat, BitVec.toNat_add, Nat.shiftRight_zero, BitVec.ofNat_eq_ofNat,
    BitVec.toNat_ofNat]
  omega

theorem encReadResult_eq_append (b : Byte) :
    encReadResult b = b.extractLsb' 7 1 ++ 0b11#2 ++ b.extractLsb' 0 5 := by
  have ha : (encReadResult b).extractLsb' 0 5 = b.extractLsb' 0 5 := by
    simp [encReadResult, Config.opcReadResult, BitVec.extractLsb'_or]
  have hs := selector_encReadResult b
  rw [BitVec.getLsbD_eq_extractLsb'] at hs
  rcases BitVec.eq_zero_or_eq_one (b.extractLsb' 7 1) with h | h
  all_goals
    rw [h] at hs ⊢
    exact eq_append_of_fields hs ha

/-- Settles O1: the byte is its selector and the low five bits of the address, and adding 32 leaves those. -/
theorem registerAddressIsMasked : Obligations.RegisterAddressIsMasked := by
  intro a
  refine ⟨rfl, encWriteReg_eq_append a, rfl, encReadReg_eq_append a, ?_, ?_⟩
  · rw [encWriteReg_eq_append, encWriteReg_eq_append, address_field_add_32]
  · rw [encReadReg_eq_append, encReadReg_eq_append, address_field_add_32]

theorem decodeCmd_encReadResult_of_bit7 {b : Byte} (h : b.getLsbD 7 = true) :
    decodeCmd (encReadResult b) = .unknown (encReadResult b) := by
  rw [decodeCmd_encReadResult, if_pos h]

theorem decodeCmd_encReadResult_of_no_bit7 {b : Byte} (h : b.getLsbD 7 = false) :
    decodeCmd (encReadResult b) = .readResult (b.extractLsb' 0 5) := by
  rw [decodeCmd_encReadResult, if_neg (Bool.eq_false_iff.1 h)]

/-- Settles O2: bits 6 and 5 come from the pattern alone, so bit 7 decides the selector. -/
theorem resultBaseIsNotMasked : Obligations.ResultBaseIsNotMasked := by
  refine ⟨fun b => ⟨rfl, encReadResult_eq_append b, selector_encReadResult b, decodeCmd_encReadResult_of_bit7⟩, ?_⟩
  decide

/-- Settles O4: masking twice is masking once, and the selectors are those of the patterns. -/
theorem commandByteRoundTrips : Obligations.CommandByteRoundTrips := by
  refine ⟨fun a => ?_, fun a => (fields_or_masked rfl a).1, fun a => (fields_or_masked rfl a).1, rfl, rfl, rfl, rfl,
    fun b => ?_, fun b => ?_, fun b hb => ?_, rfl, rfl, fun c k l hk hl => hk.symm.trans hl⟩
  · simp [encWriteReg, Config.addrMask, BitVec.and_assoc]
  · have h1 (x : BitVec 1) : x &&& 1#1 = x := BitVec.and_allOnes
    have h5 (x : Adr) : x &&& 31#5 = x := BitVec.and_allOnes
    simp [encReadResult_eq_append, BitVec.extractLsb'_and, h1, h5]
  · have h2 (x : BitVec 2) : 3#2 ||| x = 3#2 := BitVec.allOnes_or
    simp [encReadResult, Config.opcReadResult, BitVec.extractLsb'_or, h2]
  · exact decodeCmd_encReadResult_of_no_bit7 (Nat.testBit_lt_two_pow (by omega))

/-! ### The classifier -/

/-- A selector stands for a run of 32 command bytes. -/
theorem selector_eq_iff (c : Byte) (k : BitVec 3) :
    c.extractLsb' 5 3 = k ↔ 32 * k.toNat ≤ c.toNat ∧ c.toNat ≤ 32 * k.toNat + 31 := by
  rw [← BitVec.toNat_inj, BitVec.extractLsb'_toNat, Nat.shiftRight_eq_div_pow]
  omega

/-- R56: the classifier, range by range. -/
theorem decodeCmd_cases (c : Byte) :
    (c.toNat = 0x30 ∧ decodeCmd c = .powerReset) ∨ (c.toNat = 0x18 ∧ decodeCmd c = .initStart) ∨
    (0x80 ≤ c.toNat ∧ c.toNat ≤ 0x9F ∧ decodeCmd c = .write (c.extractLsb' 0 5)) ∨
    (0x40 ≤ c.toNat ∧ c.toNat ≤ 0x5F ∧ decodeCmd c = .read (c.extractLsb' 0 5)) ∨
    (0x60 ≤ c.toNat ∧ c.toNat ≤ 0x7F ∧ decodeCmd c = .readResult (c.extractLsb' 0 5)) ∨
    (c.toNat ≠ 0x30 ∧ c.toNat ≠ 0x18 ∧ (c.toNat < 0x40 ∨ 0x9F < c.toNat) ∧ decodeCmd c = .unknown c) := by
  unfold decodeCmd
  simp only [selector_eq_iff]
  split_ifs with hpr hin hw hr hres
  · exact .inl ⟨congrArg BitVec.toNat hpr, rfl⟩
  · exact .inr (.inl ⟨congrArg BitVec.toNat hin, rfl⟩)
  · exact .inr (.inr (.inl ⟨hw.1, hw.2, rfl⟩))
  · exact .inr (.inr (.inr (.inl ⟨hr.1, hr.2, rfl⟩)))
  · exact .inr (.inr (.inr (.inr (.inl ⟨hres.1, hres.2, rfl⟩))))
  · refine .inr (.inr (.inr (.inr (.inr ⟨fun h => hpr (BitVec.eq_of_toNat_eq h),
      fun h => hin (BitVec.eq_of_toNat_eq h), ?_, rfl⟩))))
    simp only [BitVec.reduceToNat] at hw hr hres
    omega

/-- Settles O3: the six ranges are disjoint, so each kind is its range; the encoders hit theirs. -/
theorem everyCommandByteIsClassified : Obligations.EveryCommandByteIsClassified := by
  refine ⟨fun c => ?_, decodeCmd_encWriteReg, decodeCmd_encReadReg, fun b => decodeCmd_encReadResult_of_no_bit7,
    fun b => decodeCmd_encReadResult_of_bit7⟩
  have h30 : c = 0x30 ↔ c.toNat = 0x30 := BitVec.toNat_inj.symm
  have h18 : c = 0x18 ↔ c.toNat = 0x18 := BitVec.toNat_inj.symm
  rcases decodeCmd_cases c with ⟨h, hd⟩ | ⟨h, hd⟩ | ⟨h, h', hd⟩ | ⟨h, h', hd⟩ | ⟨h, h', hd⟩ | ⟨h, h', h'', hd⟩
  all_goals grind

/-- R57: `Unknown` by the number of the byte. -/
theorem decodeCmd_ofNat_eq_unknown_iff {n : Nat} (hn : n < 256) :
    decodeCmd (BitVec.ofNat 8 n) = .unknown (BitVec.ofNat 8 n) ↔
      n ≠ 0x30 ∧ n ≠ 0x18 ∧ (n < 0x40 ∨ 0x9F < n) := by
  have hc : (BitVec.ofNat 8 n).toNat = n := BitVec.toNat_ofNat .. |>.trans (Nat.mod_eq_of_lt hn)
  have h := decodeCmd_cases (BitVec.ofNat 8 n)
  grind

/-- Settles O5: by R57 the unknown bytes are told by their number, and are then counted. -/
theorem unknownCommandBytesCounted : Obligations.UnknownCommandBytesCounted := by
  unfold Obligations.UnknownCommandBytesCounted
  intro unknownIn
  have count (lo hi : Nat) : unknownIn lo hi = ((List.range 256).filter (fun n =>
      lo ≤ n ∧ n ≤ hi ∧ n ≠ 0x30 ∧ n ≠ 0x18 ∧ (n < 0x40 ∨ 0x9F < n))).length := by
    refine congrArg List.length (List.filter_congr fun n hn => ?_)
    simp only [decodeCmd_ofNat_eq_unknown_iff (List.mem_range.1 hn)]
  simp only [count]
  exact ⟨rfl, rfl, rfl, rfl, rfl⟩

end Sys2Proof.Proofs
end

section
/-!
Words (30_encoding.md R51, R58 to R60): what the decoder reads from a frame and from a host word, that it inverts the
encoder, and that the host codes are the table's.
-/

namespace Sys2Proof.Proofs

open Sys2Proof.Machine Sys2Proof.Safety Sys2Proof.Laws

/-! ### Frames -/

section
variable {c : Byte} {a : Adr}

/-- R59: a write pattern with one payload byte is a register write. -/
theorem decodeWire_write_one (h : decodeCmd c = .write a) (v : Byte) : decodeWire [c, v] = .ok (.writeReg a v) := by
  simp [decodeWire, h]

/-- R59: a write pattern with any other payload is the bulk write, or no frame. -/
theorem decodeWire_write_bulk (h : decodeCmd c = .write a) {ps : List Byte} (hn : ps.length ≠ 1) :
    decodeWire (c :: ps) =
      if a = 0 ∧ ps.length = 17 then .ok (.writeConfig ps) else .rejected (.payloadCount c ps.length) := by
  match ps with
  | [] => simp [decodeWire, h]
  | [_] => exact absurd rfl hn
  | _ :: _ :: _ => simp [decodeWire, h]

/-- R59: a read pattern with one payload byte is a register read. -/
theorem decodeWire_read_one (h : decodeCmd c = .read a) (v : Byte) : decodeWire [c, v] = .ok (.readReg a) := by
  simp [decodeWire, h]

/-- R59: a read pattern with any other payload is the bulk read, or no frame. -/
theorem decodeWire_read_bulk (h : decodeCmd c = .read a) {ps : List Byte} (hn : ps.length ≠ 1) :
    decodeWire (c :: ps) =
      if a = 0 ∧ ps.length = 17 then .ok .readConfig else .rejected (.payloadCount c ps.length) := by
  match ps with
  | [] => simp [decodeWire, h]
  | [_] => exact absurd rfl hn
  | _ :: _ :: _ => simp [decodeWire, h]

theorem decodeWire_readResult (h : decodeCmd c = .readResult a) {ps : List Byte} (hn : ps.length = 3) :
    decodeWire (c :: ps) = .ok (.readResult a) := by
  simp [decodeWire, h, hn]

end

/-- Settles O6: by the payload count, 1 or another. -/
theorem payloadCountGivesFrameKind : Obligations.PayloadCountGivesFrameKind := by
  intro payload
  by_cases hn : payload.length = 1
  · obtain ⟨v, rfl⟩ := List.length_eq_one_iff.1 hn
    exact ⟨decodeWire_write_one decodeCmd_encWriteConfig v, decodeWire_read_one decodeCmd_encReadConfig v⟩
  · simp only [decode, decodeWire_write_bulk decodeCmd_encWriteConfig hn,
      decodeWire_read_bulk decodeCmd_encReadConfig hn, hn, true_and, if_false]

/-! ### Decoding an instruction's word -/

/-- A 5-bit address is the address field of the byte the register encoders take. -/
theorem address_field_of_adr (adr : Adr) : (adr.setWidth 8).extractLsb' 0 5 = adr := by
  rw [BitVec.extractLsb'_setWidth_of_le (by decide), BitVec.extractLsb'_eq_self]

theorem decodeCmd_of_result_address (adr : Adr) : decodeCmd (encReadResult (adr.setWidth 8)) = .readResult adr := by
  rw [decodeCmd_encReadResult_of_no_bit7 (by simp), address_field_of_adr]

theorem length_of_cfgComplete {cfg : List Byte} (h : cfgComplete cfg = true) : cfg.length = 17 := by
  simpa [cfgComplete] using h

/-- Settles O7: row by row; a wire row by the kind of its command byte and its payload count, a host row by its code. -/
theorem decodeOfEncodeIsTheInstruction : Obligations.DecodeOfEncodeIsTheInstruction := by
  intro dummy i hwf
  cases i with
  | powerReset | initStart => rfl
  | writeReg adr val =>
    have h := decodeCmd_encWriteReg (adr.setWidth 8)
    rw [address_field_of_adr] at h
    exact decodeWire_write_one h val
  | readReg adr =>
    have h := decodeCmd_encReadReg (adr.setWidth 8)
    rw [address_field_of_adr] at h
    exact decodeWire_read_one h dummy
  | writeConfig cfg =>
    have hlen : cfg.length = 17 := length_of_cfgComplete hwf
    exact (decodeWire_write_bulk decodeCmd_encWriteConfig (by omega)).trans (if_pos ⟨rfl, hlen⟩)
  | readConfig => rfl
  | readResult adr => exact decodeWire_readResult (decodeCmd_of_result_address adr) rfl
  | wrcfg cfg | vfycfg cfg =>
    have hlen : cfg.length = 17 := length_of_cfgComplete hwf
    exact if_pos hlen
  | sendop _ | wrreg _ _ | rdreg _ | rdres _ | cfgsingle | cfgdual | ispresent | isdual => rfl

/-! ### Host words -/

theorem decodeHost_unknown {h : Hcmd} (hu : h = 0 ∨ 11 ≤ h.toNat) (os : List Byte) :
    decodeHost h os = .rejected (.unknownHostCode h) := by
  have hne : ∀ k : Hcmd, k ≠ 0 → k.toNat < 11 → h ≠ k := by
    rintro k hk hlt rfl
    rcases hu with h0 | h11
    · exact hk h0
    · omega
  simp [decodeHost, hne]

/-- R60: a code names no operation, or is one of the ten. -/
theorem hostCode_cases (h : Hcmd) :
    (h = 0 ∨ 11 ≤ h.toNat) ∨ h = 0x1 ∨ h = 0x2 ∨ h = 0x3 ∨ h = 0x4 ∨ h = 0x5 ∨ h = 0x6 ∨ h = 0x7 ∨ h = 0x8 ∨
    h = 0x9 ∨ h = 0xA := by
  revert h
  decide

/-- A host word that decodes is its instruction's encoding: each code has one meaning and one operand form (R60). -/
theorem encode_of_decodeHost {h : Hcmd} {os : List Byte} {i : Instr} (hd : decodeHost h os = .ok i) (dummy : Byte) :
    encode dummy i = .host h os := by
  rcases hostCode_cases h with hu | rfl | rfl | rfl | rfl | rfl | rfl | rfl | rfl | rfl | rfl
  · simp [decodeHost_unknown hu] at hd
  all_goals
    simp only [decodeHost, BitVec.ofNat_eq_ofNat, BitVec.reduceEq, if_true, if_false] at hd
    split at hd
    · cases hd
      simp_all [encode]
    · cases hd

/-- Settles O8: the codes of no operation are none of the ten the decoder compares with. -/
theorem hostCodesAreTheTable : Obligations.HostCodesAreTheTable := fun _ os =>
  ⟨fun hu => decodeHost_unknown hu os, fun _ hd dummy => encode_of_decodeHost hd dummy⟩

/-- Settles O9: by running the decoder on the ten words. -/
theorem sampleWordsDecode : Obligations.SampleWordsDecode := by
  unfold Obligations.SampleWordsDecode
  decide

end Sys2Proof.Proofs
end

section
/-!
The steps of a word the decoder rejects (30_encoding.md R60, 60_exceptions.md R126), and the wire rows as the host
operations that issue them (30_encoding.md R51): each runs to the end of its procedure.
-/

namespace Sys2Proof.Proofs

open Sys2Proof.Machine Sys2Proof.Safety Sys2Proof.Laws

/-! ### Rejected words -/

/-- A word that is no instruction is turned away by every engine, idle or busy (R60, R126 X10). -/
theorem step_of_rejected {s : State} {w : PortWord} {rest : List HostEvent} {r : Reject}
    (hin : s.inputs = .issue w :: rest) (hd : decode w = .rejected r) : step s = .next { s with inputs := rest } := by
  have hstay : fetchPort w { s with inputs := rest } = .stay { s with inputs := rest } := by
    by_cases hb : ({ s with inputs := rest } : State).busy = true
    · exact if_pos hb
    · simp [fetchPort, hb, hd]
  simp [step, fetch, hin, hstay]

/-- Settles O16: an undefined code is rejected whatever its operands. -/
theorem undefinedHostCodeIsTurnedAway : Obligations.UndefinedHostCodeIsTurnedAway := by
  intro s h os rest hu hin
  exact step_of_rejected hin (decodeHost_unknown hu os)

/-! ### Wire rows and the host operations that issue them -/

/-- In an idle engine a wire frame begins as the Issue of its primitive does (R71, log entry 2). -/
theorem runFrame_of_idle {s : State} (h : s.isIdle = true) (i : Instr) (p : Prim) (latch : State → State) :
    runFrame i p latch s = issuePrim p latch s := by
  simp [runFrame, issuePrim, State.busy, h]

/-- In an idle engine READ_CONFIG is VFYCFG of the map already latched (log entry 24). -/
theorem exec_readConfig_of_idle {s : State} (h : s.isIdle = true) :
    exec .readConfig s = exec (.vfycfg s.cfg.toList) s := by
  rw [exec_vfycfg_toList]
  exact runFrame_of_idle h _ _ _

/-- Settles O28: both begin the same frame with the same latches. -/
theorem wireRowIsItsHostOperation : Obligations.WireRowIsItsHostOperation := by
  intro s hp hw
  have h : s.isIdle = true := isIdle_iff.2 ⟨hp, hw⟩
  refine ⟨runFrame_of_idle h .., runFrame_of_idle h .., fun adr val => ?_, fun adr => runFrame_of_idle h ..,
    fun cfg => ?_, exec_readConfig_of_idle h, fun adr => ?_⟩
  · exact runFrame_of_idle h _ _ (fun u => (u.latchAddr (adr.setWidth 8)).latchVal val)
  · cases hc : cfgOfList cfg <;> simp [exec, execWriteConfig, execWrcfg, hc, runFrame_of_idle h]
  · exact runFrame_of_idle h _ _ (fun u => (u.latchBase (adr.setWidth 8)).clearAcc)

/-! ### The procedures of the primitives in terms of their frames -/

theorem procSendop_eq (op : Byte) (s : State) : procSendop op s = answered .sendop (s.loseRet.latchOp op) := rfl

theorem procWrreg_eq (addr val : Byte) (s : State) :
    procWrreg addr val s = answered .wrreg ((s.loseRet.latchAddr addr).latchVal val) := rfl

theorem procRdreg_eq (addr : Byte) (s : State) :
    procRdreg addr s = answered .rdreg (s.loseRet.latchAddr addr) := rfl

theorem procWrcfg_eq (cfg : Cfg) (s : State) : procWrcfg cfg s = answered .wrcfg (s.loseRet.latchCfg cfg) := rfl

theorem procVfycfg_eq (cfg : Cfg) (s : State) :
    procVfycfg cfg s = answered .vfycfg (s.loseRet.latchCfg cfg).verifyStart := rfl

/-- R101: three steps of the reassembler from a cleared accumulator. -/
theorem accumulate_three (b0 b1 b2 : Byte) :
    ((((0 : U24) <<< 8 ||| b0.setWidth 24) <<< 8 ||| b1.setWidth 24) <<< 8) ||| b2.setWidth 24 = assemble b0 b1 b2 := by
  simp [assemble, BitVec.shiftLeft_or_distrib, ← BitVec.shiftLeft_add]

/-- A state inside a result read: the index and the accumulator as given. -/
def accumulated (i : Nat) (acc : U24) (s : State) : State := { s with idx := i, acc := acc }

/-- One round of a result read's payload loop is one step of the reassembler (R101). -/
theorem payloadStep_accumulated (tx : Byte) (i : Nat) (acc : U24) (s : State) :
    payloadStep .rdres tx (accumulated i acc s) =
      accumulated (i + 1) ((acc <<< 8) ||| (s.exchange tx).rdata.setWidth 24) (s.exchange tx) := rfl

/-- The accumulator of a result read ends as R100 assembles it. -/
theorem procRdresFrame_eq (base : Byte) (s : State) :
    procRdresFrame base s = frameOf .rdres (s.loseRet.latchBase base).clearAcc := by
  unfold procRdresFrame
  generalize hs0 : (procBegin (s.loseRet.latchBase base).clearAcc).exchange (0x60 ||| base) = s0
  have hstart : frameOf .rdres (s.loseRet.latchBase base).clearAcc =
      procEnd (procPayload (fun _ => s.dummyTx) (State.onPayload · .rdres) 3 (accumulated 0 0 s0)) := by
    rw [← hs0]
    rfl
  rw [hstart]
  simp only [procPayload_succ, payloadStep_accumulated, accumulate_three]
  rfl

theorem procRdres_eq (base : Byte) (s : State) :
    procRdres base s = answered .rdres (s.loseRet.latchBase base).clearAcc := by
  rw [procRdres, procRdresFrame_eq]
  rfl

/-- Settles O27: each wire row is the operation that issues it, whose run ends in its procedure. -/
theorem wireFramesRunTheirOperation : Obligations.WireFramesRunTheirOperation := by
  intro s hq
  have ⟨hph, hws, _⟩ := hq
  obtain ⟨hpr, hin, hwr, hrd, hwc, hvf, hrr⟩ := wireRowIsItsHostOperation s hph hws
  refine ⟨?_, ?_, fun adr val => ?_, fun adr => ?_, fun cfg => ?_, ?_, fun adr => ?_⟩
  · rw [hpr, procSendop_eq]
    exact sendop_runs hq 0x30
  · rw [hin, procSendop_eq]
    exact sendop_runs hq 0x18
  · rw [hwr, procWrreg_eq]
    exact wrreg_runs hq (adr.setWidth 8) val
  · rw [hrd, procRdreg_eq]
    exact rdreg_runs hq (adr.setWidth 8)
  · rw [hwc, procWrcfg_eq]
    exact wrcfg_runs hq cfg
  · rw [hvf, procVfycfg_eq]
    exact vfycfg_runs hq s.cfg
  · rw [hrr, procRdres_eq]
    exact rdres_runs hq (adr.setWidth 8)

end Sys2Proof.Proofs
end

section
/-!
A step always has a next state (40_transaction_framing.md R74, 60_exceptions.md R125, R136): `exec` in every state, the
sequencer in every position the invariant allows.
-/

namespace Sys2Proof.Proofs

open Sys2Proof.Machine Sys2Proof.Safety Sys2Proof.Laws

/-! ### Instructions -/

theorem issuePrim_total (p : Prim) (latch : State → State) (s : State) : ∃ t, issuePrim p latch s = .next t := by
  unfold issuePrim
  split <;> exact ⟨_, rfl⟩

theorem runFrame_total (i : Instr) (p : Prim) (latch : State → State) (s : State) :
    ∃ t, runFrame i p latch s = .next t := by
  unfold runFrame
  split
  · exact ⟨_, rfl⟩
  · split <;> exact ⟨_, rfl⟩

theorem issueWorkflow_total (m : Channels) (s : State) : ∃ t, issueWorkflow m s = .next t := by
  unfold issueWorkflow
  split <;> exact ⟨_, rfl⟩

theorem issueAccessor_total (v : RetVal) (s : State) : ∃ t, issueAccessor v s = .next t := by
  unfold issueAccessor
  split <;> exact ⟨_, rfl⟩

/-- No instruction's meaning stops the engine, in any state (R125, R136). -/
theorem exec_total (i : Instr) (s : State) : ∃ t, exec i s = .next t := by
  cases i
  case powerReset | initStart | readReg | readConfig => exact runFrame_total _ _ _ s
  case writeReg adr val => exact runFrame_total _ _ (fun u => (u.latchAddr (adr.setWidth 8)).latchVal val) s
  case readResult adr => exact runFrame_total _ _ (fun u => (u.latchBase (adr.setWidth 8)).clearAcc) s
  case sendop | rdreg => exact issuePrim_total _ _ s
  case wrreg addr val => exact issuePrim_total _ (fun u => (u.latchAddr addr).latchVal val) s
  case rdres base => exact issuePrim_total _ (fun u => (u.latchBase base).clearAcc) s
  case cfgsingle | cfgdual => exact issueWorkflow_total _ s
  case ispresent | isdual => exact issueAccessor_total _ s
  case writeConfig cfg =>
    simp only [exec, execWriteConfig]
    split
    · exact runFrame_total _ _ _ s
    · exact ⟨s, rfl⟩
  case wrcfg cfg =>
    simp only [exec, execWrcfg]
    split
    · exact issuePrim_total _ _ s
    · exact ⟨s, rfl⟩
  case vfycfg cfg =>
    simp only [exec, execVfycfg]
    split
    · exact issuePrim_total _ _ s
    · exact ⟨s, rfl⟩

/-! ### The sequencer -/

/-- R13, R14: inside a frame there is a primitive, and `idx` is within its payload. -/
theorem cur_of_inFrame {s : State} (h : FrameInTable s) (hp : inFrame s.phase = true) :
    ∃ p, s.cur = some p ∧ (s.phase = .fData → s.idx ≤ p.payloadLen) ∧ (s.phase = .fClose → s.idx = p.payloadLen) ∧
      (s.wstep = .wNone ∨ s.wstep.prim = some p) := by
  cases hc : s.cur with
  | none => simp [FrameInTable, hc, hp] at h
  | some p =>
    simp only [FrameInTable, hc] at h
    exact ⟨p, rfl, h.2⟩

/-- A workflow step that has a wait goes on after it (R111). -/
theorem afterWait_of_wait {w : WStep} (h : w.wait.isSome = true) : ∃ v, w.afterWait = some v := by
  cases w
  case wResetSettle | wBackoff | wInitSettle => exact ⟨_, rfl⟩
  all_goals cases h

/-- A workflow step that runs a frame goes on after it (R111). -/
theorem afterFrame_of_prim {w : WStep} {p : Prim} (h : w.prim = some p) (present : Bool) :
    ∃ v, w.afterFrame present = some v := by
  cases w
  case wReset | wWrite | wVerify | wInit => exact ⟨_, rfl⟩
  all_goals cases h

theorem endFrame_total {p : Prim} {s : State} (h : s.wstep = .wNone ∨ s.wstep.prim = some p) :
    ∃ t, endFrame p s = .next t := by
  rcases h with h | h
  · exact ⟨_, if_pos h⟩
  · obtain ⟨v, hv⟩ := afterFrame_of_prim h s.present
    have hn : s.wstep ≠ .wNone := by
      rintro hn
      simp [hn, WStep.prim] at h
    simp [endFrame, hn, hv]

/-- Where no frame is to begin, the position has its row in R74 or R111. -/
theorem advance_total {s : State} (hf : FrameInTable s) (hw : WaitInTable s) (hn : workflowFrame s = none) :
    ∃ t, advance s = .next t := by
  unfold advance
  cases hp : s.phase
  case idle =>
    cases hws : s.wstep
    case wReset | wWrite | wVerify | wInit => simp [workflowFrame, hp, hws] at hn
    all_goals exact ⟨_, rfl⟩
  case waiting =>
    obtain ⟨v, hv⟩ := afterWait_of_wait (hw hp)
    simp [hv]
  all_goals obtain ⟨p, hc, hd, hcl, hpr⟩ := cur_of_inFrame hf (by simp [hp, inFrame])
  case fCs | fCmd => simp [hc]
  case fData =>
    rcases Nat.lt_or_eq_of_le (hd hp) with hx | hx
    · simp [hc, hx]
    · simp [hc, hx]
  case fClose =>
    simp only [hc]
    exact endFrame_total hpr

/-! ### A step -/

theorem fetchInternal_total {s : State} (h : EngineInv s) : ∃ t, perform (fetchInternal s) = .next t := by
  obtain ⟨-, hf, hw, -⟩ := h
  unfold fetchInternal
  cases hn : workflowFrame s with
  | some i => exact exec_total i s
  | none => exact advance_total hf hw hn

theorem fetchPort_total (w : PortWord) (s : State) : ∃ t, perform (fetchPort w s) = .next t := by
  unfold fetchPort
  split
  · exact ⟨s, rfl⟩
  · cases decode w with
    | ok i => exact exec_total i s
    | rejected r => exact ⟨s, rfl⟩

/-- Settles O53: by what the host presents; the invariant says nothing of the host's list, so it still holds once the
event is taken. -/
theorem engineNeverStops : Obligations.EngineNeverStops := by
  intro s hs
  rw [step_eq_perform]
  unfold fetch
  cases s.inputs with
  | nil => exact fetchInternal_total hs
  | cons e rest =>
    cases e with
    | quiet => exact fetchInternal_total (s := { s with inputs := rest }) hs
    | issue w => exact fetchPort_total w { s with inputs := rest }
    | reset => exact ⟨_, rfl⟩

end Sys2Proof.Proofs
end

section
/-!
The bus trace and the grammar of frames and waits (40_transaction_framing.md R76): an event that moves the position in the
grammar as the sequencer moves keeps the trace in it.
-/

namespace Sys2Proof.Proofs

open Sys2Proof.Machine Sys2Proof.Safety Sys2Proof.Laws

theorem busRun_append_singleton (bus : List BusEvent) (e : BusEvent) :
    busRun (bus ++ [e]) = (busRun bus).bind (busNext · e) := by
  simp [busRun]

/-- A step that puts nothing on the bus and stays in its place in the grammar. -/
theorem traceFits_of_same {s t : State} (hs : TraceFits s) (hb : t.bus = s.bus) (hp : busPosOf t = busPosOf s) :
    TraceFits t := by
  rw [TraceFits, hb, hp]
  exact hs

/-- A step that puts on the bus an event which the grammar allows there and which leads to the step's new place. -/
theorem traceFits_of_event {s t : State} {e : BusEvent} (hs : TraceFits s) (hb : t.bus = s.bus ++ [e])
    (hn : busNext (busPosOf s) e = some (busPosOf t)) : TraceFits t := by
  rw [TraceFits, hb, busRun_append_singleton, hs]
  exact hn

theorem busPosOf_of_idle {s : State} (h : s.phase = .idle) : busPosOf s = .outside := by simp [busPosOf, h]

/-- R76 (b): a frame begins outside every window. -/
theorem traceFits_startFrame {s l : State} {p : Prim} (hs : TraceFits s) (hp : s.phase = .idle) (hb : l.bus = s.bus) :
    TraceFits (l.startFrame p) :=
  traceFits_of_event (e := .csAssert) hs (by simp [hb]) (by rw [busPosOf_of_idle hp]; rfl)

/-- An instruction puts a frame's start on the bus, in an idle engine or between frames, or nothing. -/
theorem exec_keeps_traceFits {i : Instr} {s t : State} (hs : TraceFits s) (h : exec i s = .next t) : TraceFits t := by
  rcases exec_cases h with rfl | ⟨p, l, hi, hl, rfl⟩ | ⟨hw, hstep⟩ | ⟨m, hi, rfl⟩ | ⟨v, -, rfl⟩
  · exact hs
  · obtain ⟨op, addr, val, base, cfg, acc, present, ret, draws, rfl, -⟩ := hl
    exact traceFits_startFrame hs (isIdle_iff.1 hi).1 rfl
  · obtain ⟨hp, -⟩ := workflowFrame_cases hw
    rcases hstep with ⟨-, rfl⟩ | ⟨-, rfl⟩ | ⟨-, rfl⟩ | ⟨-, rfl⟩
    all_goals exact traceFits_startFrame hs hp rfl
  · exact traceFits_of_same hs rfl rfl
  · exact traceFits_of_same hs rfl rfl

/-- R76 (e): a window of a frame in the table closes after 1, 2, 4 or 18 exchanges. -/
theorem busNext_csDeassert (p : Prim) : busNext (.sessionOver (p.payloadLen + 1)) .csDeassert = some .outside := by
  cases p <;> rfl

/-- At the end of a frame all its exchanges have been made (R74 row 6). -/
theorem busNext_of_fClose {s : State} {p : Prim} (hf : FrameInTable s) (hp : s.phase = .fClose) (hc : s.cur = some p) :
    busNext (busPosOf s) .csDeassert = some .outside := by
  obtain ⟨q, hq, -, hx, -⟩ := cur_of_inFrame hf (by simp [hp, inFrame])
  obtain rfl : p = q := by simpa [hc] using hq
  rw [busPosOf, hp, hx hp]
  exact busNext_csDeassert p

/-- Row by row of R74 and R111, the event put on the bus is the one the grammar allows. -/
theorem advance_keeps_traceFits {s t : State} (hf : FrameInTable s) (hs : TraceFits s) (h : advance s = .next t) :
    TraceFits t := by
  rcases advance_cases h with ⟨-, -, rfl⟩ | ⟨d, hp, -, rfl⟩ | ⟨-, -, rfl⟩ | ⟨-, -, rfl⟩ | ⟨w, hp, -, rfl⟩ |
    ⟨p, hp, -, rfl⟩ | ⟨p, hp, -, rfl⟩ | ⟨p, hp, -, -, rfl⟩ | ⟨p, hp, -, -, rfl⟩ | ⟨p, hp, hc, -, rfl⟩ |
    ⟨p, w, hp, hc, -, -, rfl⟩
  · exact hs
  · exact traceFits_of_event (e := .wait d) hs rfl (by rw [busPosOf, hp]; rfl)
  · exact traceFits_of_same hs rfl rfl
  · exact traceFits_of_same hs rfl rfl
  · exact traceFits_of_same hs rfl (by simp [busPosOf, hp])
  · exact traceFits_of_event (e := openEvent) hs rfl (by rw [busPosOf, hp]; rfl)
  · exact traceFits_of_event hs rfl (by rw [busPosOf, hp]; rfl)
  · rw [payloadByte_eq]
    exact traceFits_of_event hs rfl (by simp [busPosOf, hp, busNext])
  · exact traceFits_of_event (e := .sessionClose) hs rfl (by rw [busPosOf, hp]; rfl)
  · exact traceFits_of_event hs rfl (busNext_of_fClose hf hp hc)
  · exact traceFits_of_event hs rfl (busNext_of_fClose hf hp hc)

/-- Settles O54: reset empties the trace, a word turned away leaves it, and an instruction and a transition of the
sequencer each extend it by what the grammar allows. -/
theorem stepKeepsTheBusGrammar : Obligations.StepKeepsTheBusGrammar := by
  intro s t hi hs h
  obtain ⟨-, hf, -, -⟩ := hi
  have hh : TraceFits (heard s) := hs
  rcases step_by_origin h with ⟨rest, -, rfl⟩ | rfl | ⟨i, he⟩ | ha
  · rfl
  · exact hh
  · exact exec_keeps_traceFits hh he
  · exact advance_keeps_traceFits (s := heard s) hf hh ha

end Sys2Proof.Proofs
end

section
/-!
A busy engine turns away whatever is presented (40_transaction_framing.md R75, 60_exceptions.md R126 X9).
-/

namespace Sys2Proof.Proofs

open Sys2Proof.Machine Sys2Proof.Safety Sys2Proof.Laws

/-- R13: a frame, a wait or a workflow in progress makes the engine busy. -/
theorem busy_of_position {s : State} (h : s.phase ≠ .idle ∨ s.wstep ≠ .wNone) : s.busy = true := by
  rw [busy_iff, Bool.eq_false_iff, Ne, isIdle_iff]
  exact not_and_or.2 h

section
variable {s : State} (hb : s.busy = true)
include hb

theorem step_issue_of_busy {w : PortWord} {rest : List HostEvent} (hin : s.inputs = .issue w :: rest) :
    step s = .next { s with inputs := rest } := by
  have hstay : fetchPort w { s with inputs := rest } = .stay { s with inputs := rest } := if_pos hb
  simp [step, fetch, hin, hstay]

theorem issuePrim_of_busy (p : Prim) (latch : State → State) : issuePrim p latch s = .next s := if_pos hb

theorem issueWorkflow_of_busy (m : Channels) : issueWorkflow m s = .next s := if_pos hb

theorem issueAccessor_of_busy (v : RetVal) : issueAccessor v s = .next s := if_pos hb

theorem execWrcfg_of_busy (cfg : List Byte) : execWrcfg cfg s = .next s := by
  unfold execWrcfg
  split
  · exact issuePrim_of_busy hb _ _
  · rfl

theorem execVfycfg_of_busy (cfg : List Byte) : execVfycfg cfg s = .next s := by
  unfold execVfycfg
  split
  · exact issuePrim_of_busy hb _ _
  · rfl

end

/-- Settles O15: at the port by the fetch, in `exec` by each of the three ways to issue. -/
theorem busyEngineTurnsIssueAway : Obligations.BusyEngineTurnsIssueAway := by
  intro s h
  have hb := busy_of_position h
  exact ⟨fun _ _ => step_issue_of_busy hb, fun _ => issuePrim_of_busy hb _ _,
    fun addr val => issuePrim_of_busy hb _ (fun u => (u.latchAddr addr).latchVal val),
    fun _ => issuePrim_of_busy hb _ _, execWrcfg_of_busy hb, execVfycfg_of_busy hb,
    fun base => issuePrim_of_busy hb _ (fun u => (u.latchBase base).clearAcc),
    issueWorkflow_of_busy hb _, issueWorkflow_of_busy hb _, issueAccessor_of_busy hb _, issueAccessor_of_busy hb _⟩

/-- Settles O60, by induction on the words: each is turned away, and the engine is as busy as before. -/
theorem turnedAwayWordsLeaveNoMark : Obligations.TurnedAwayWordsLeaveNoMark := by
  intro s ws rest hb hin
  induction ws generalizing s with
  | nil =>
    obtain rfl : s.inputs = rest := hin
    rfl
  | cons w ws ih => exact after_step (step_issue_of_busy hb hin) (ih { s with inputs := ws.map .issue ++ rest } hb rfl)

end Sys2Proof.Proofs
end

section
/-!
The frames of SENDOP, WRREG, RDREG and WRCFG on the wire, for any bytes received (40_transaction_framing.md R70,
41_opcode_and_register_primitives.md R80 to R83, 42_bulk_config.md R90).
-/

namespace Sys2Proof.Proofs

open Sys2Proof.Machine Sys2Proof.Safety Sys2Proof.Laws

/-! ### What a frame receives from an oracle -/

/-- An oracle answers the bytes listed, in order (R8, R43). -/
theorem received_oracle {txs rx : List Byte} (hl : rx.length = txs.length) (n : Nat) (rest : List Byte) :
    received txs n (.oracle (rx ++ rest)) = rx := by
  induction txs generalizing n rx with
  | nil => exact (List.length_eq_zero_iff.1 hl).symm
  | cons tx txs ih =>
    obtain ⟨b, rx, rfl⟩ := List.exists_cons_of_length_eq_add_one hl
    exact congrArg (b :: ·) (ih (Nat.succ.inj hl) (n + 1))

section
variable {p : Prim} {s : State} {rx rest : List Byte} (hr : s.remote = .oracle (rx ++ rest))
  (hl : rx.length = p.payloadLen + 1)
include hr hl

theorem answersTo_oracle : answersTo p s = rx := by
  rw [answersTo, hr]
  exact received_oracle (by simpa [sentBy] using hl) s.draws rest

theorem answered_bus_oracle : (answered p s).bus = s.bus ++ frameEvents ((sentBy p s).zip rx) := by
  rw [answered_bus, (frameOf_bus_remote p s).1, answersTo_oracle hr hl]

end

/-! ### What an answered frame leaves -/

theorem isIdle_answered {p : Prim} {s : State} (hw : s.wstep = .wNone) : (answered p s).isIdle = true :=
  isIdle_iff.2 ⟨rfl, (frameOf_wstep p s).trans hw⟩

/-- A frame writes no operand latch (R17). -/
theorem answered_operands (p : Prim) (s : State) :
    (answered p s).op = s.op ∧ (answered p s).addr = s.addr ∧ (answered p s).val = s.val ∧
    (answered p s).cfg = s.cfg ∧ (answered p s).mode = s.mode :=
  have same {α : Type} (f : State → α) := congrArg f (frameOf_eq p s)
  ⟨same State.op, same State.addr, same State.val, same State.cfg, same State.mode⟩

/-- Settles O37: by the bytes each frame sends and what it returns. -/
theorem registerPrimitivesOnTheWire : Obligations.RegisterPrimitivesOnTheWire := by
  intro s op addr val r0 r1 rest hq
  have ⟨_, hw, _⟩ := hq
  refine ⟨fun hr => ?_, fun hr => ?_, fun hr => ?_⟩
  · obtain ⟨u, hu, ht⟩ := sendop_runs hq op
    obtain ⟨hop, -⟩ := answered_operands .sendop (s.loseRet.latchOp op)
    exact ⟨u, _, hu, ht, answered_bus_oracle (rx := [r0]) hr rfl, answered_rets _ _, hop, isIdle_answered hw, rfl, rfl⟩
  · obtain ⟨u, hu, ht⟩ := wrreg_runs hq addr val
    obtain ⟨-, haddr, hval, -⟩ := answered_operands .wrreg ((s.loseRet.latchAddr addr).latchVal val)
    exact ⟨u, _, hu, ht, answered_bus_oracle (rx := [r0, r1]) hr rfl, answered_rets _ _, haddr, hval,
      isIdle_answered hw, rfl, rfl⟩
  · obtain ⟨u, hu, ht⟩ := rdreg_runs hq addr
    obtain ⟨-, haddr, -⟩ := answered_operands .rdreg (s.loseRet.latchAddr addr)
    have hrx : answersTo .rdreg (s.loseRet.latchAddr addr) = [r0, r1] := answersTo_oracle (rx := [r0, r1]) hr rfl
    have hd : (frameOf .rdreg (s.loseRet.latchAddr addr)).rdata = r1 := by
      obtain ⟨b, hb⟩ := answersTo_rdreg (s.loseRet.latchAddr addr)
      obtain ⟨-, hd⟩ : r0 = b ∧ r1 = _ := by simpa using hrx.symm.trans hb
      exact hd.symm
    refine ⟨u, _, hu, ht, answered_bus_oracle (rx := [r0, r1]) hr rfl, ?_, ?_, hd, haddr, isIdle_answered hw, rfl, rfl⟩
    · simp [State.result, hd]
    · simp [answered, State.result, RetVal.word, State.reply, hd]

/-! ### The bulk write -/

/-- A register map is its bytes in index order (R90). -/
theorem map_cfgByte_range (c : Cfg) : (List.range 17).map (cfgByte c) = c.toList := by
  refine List.ext_getElem (by simp) fun i hi _ => ?_
  have hi : i < 17 := by simpa using hi
  simp [cfgByte, hi]

theorem sentBy_wrcfg (s : State) : sentBy .wrcfg s = 0x80 :: s.cfg.toList :=
  congrArg (0x80 :: ·) (map_cfgByte_range s.cfg)

/-- Settles O38: the bytes sent are the pattern and the map, and only a verify writes `present` and the records. -/
theorem bulkWriteOnTheWire : Obligations.BulkWriteOnTheWire := by
  intro s cfg rx rest hq hl hr
  have ⟨_, hw, _⟩ := hq
  obtain ⟨u, hu, ht⟩ := wrcfg_runs hq cfg
  obtain ⟨-, -, -, hcfg, hmode⟩ := answered_operands .wrcfg (s.loseRet.latchCfg cfg)
  obtain ⟨hpresent, hdiag⟩ := frameOf_present_diag (p := .wrcfg) (by simp) (s.loseRet.latchCfg cfg)
  have hbus := answered_bus_oracle (p := .wrcfg) (s := s.loseRet.latchCfg cfg) hr hl
  rw [sentBy_wrcfg] at hbus
  exact ⟨u, _, hu, ht, hbus, answered_rets _ _, hcfg, hpresent, hmode, hdiag, isIdle_answered hw⟩

end Sys2Proof.Proofs
end

section
/-!
What an instruction of the wire leaves alone in every state (40_transaction_framing.md R71, R74,
44_configure_workflows.md R111): a frame begun in an idle engine, one begun between the frames of a workflow, and one turned
away.
-/

namespace Sys2Proof.Proofs

open Sys2Proof.Machine Sys2Proof.Safety Sys2Proof.Laws

/-- A wire frame was turned away or begun as an Issue begins it, or begun by the workflow, which keeps `RET` (R71). -/
def WireOutcome (p : Prim) (latch : State → State) (s t : State) : Prop :=
  TurnedAwayOrBegun p latch s t ∨ t = (latch s).startFrame p

theorem runFrame_outcome {i : Instr} {p : Prim} {latch : State → State} {s t : State}
    (h : runFrame i p latch s = .next t) : WireOutcome p latch s t := by
  rcases runFrame_cases h with ⟨-, ht⟩ | ⟨-, ht⟩ | ht
  · exact .inl (.inr ht)
  · exact .inr ht
  · exact .inl (.inl ht)

theorem execWriteConfig_outcome {cfg : List Byte} {s t : State} (h : execWriteConfig cfg s = .next t) :
    ∃ c, WireOutcome .wrcfg (State.latchCfg c) s t := by
  unfold execWriteConfig at h
  split at h
  · next c _ => exact ⟨c, runFrame_outcome h⟩
  · exact ⟨s.cfg, .inl (.inl (by simpa using h.symm))⟩

/-- Losing `RET` first is a change of the latches too (R19). -/
theorem latched_of_latched_loseRet {p : Prim} {s l : State} (h : Latched p s.loseRet l) : Latched p s l := by
  obtain ⟨op, addr, val, base, cfg, acc, present, ret, draws, rfl, hp⟩ := h
  exact ⟨op, addr, val, base, cfg, acc, present, ret, draws, rfl, hp⟩

section
variable {p : Prim} {latch : State → State} {s t : State} (h : WireOutcome p latch s t)
include h

/-- An element the latches of the frame leave alone is left alone. -/
theorem wireOutcome_keeps {α : Type} (f : State → α) (hi : f ((latch s.loseRet).startFrame p) = f s)
    (hw : f ((latch s).startFrame p) = f s) : f t = f s := by
  rcases h with h | rfl
  · exact outcome_keeps h f hi
  · exact hw

/-- What every wire frame leaves alone; begun by the workflow, it is an Issue whose latches do not see the lost `RET`. -/
theorem wireOutcome_frame (hl : ∀ u, Latched p u (latch u)) : SameRecords s t ∧ SameEngine s t ∧ SameMemory s t := by
  rcases h with h | ht
  · exact outcome_frame h (latched_of_latched_loseRet (hl s.loseRet))
  · exact outcome_frame (latch := fun _ => latch s) (.inr ht) (hl s)

end

/-- POWER_RESET and INIT_START are one frame with another opcode (R81, R84). -/
theorem opcode_frame {i : Instr} {op : Byte} {s t : State} (h : runFrame i .sendop (State.latchOp op) s = .next t) :
    SameRecords s t ∧ SameEngine s t ∧ SameMemory s t ∧
    SameAddr s t ∧ SameVal s t ∧ SameBase s t ∧ SameCfg s t ∧ t.present = s.present ∧ t.acc = s.acc := by
  have ho := runFrame_outcome h
  obtain ⟨hr, he, hm⟩ := wireOutcome_frame ho fun _ => ⟨_, _, _, _, _, _, _, _, _, rfl, .inl rfl⟩
  have k {α : Type} (f : State → α) := wireOutcome_keeps ho f
  exact ⟨hr, he, hm, k State.addr rfl rfl, k State.val rfl rfl, k State.base rfl rfl, k State.cfg rfl rfl,
    k State.present rfl rfl, k State.acc rfl rfl⟩

/-- Settles O50: row by row, the start of the frame writes the latches of its primitive only. -/
theorem wireFrameFrame : Obligations.WireFrameFrame := by
  intro s t
  refine ⟨?_, fun adr val h => ?_, fun adr h => ?_, fun cfg h => ?_, fun h => ?_, fun adr h => ?_⟩
  · rintro (h | h)
    · exact opcode_frame h
    · exact opcode_frame h
  · have ho := runFrame_outcome (latch := fun u => (u.latchAddr (adr.setWidth 8)).latchVal val) h
    obtain ⟨hr, he, hm⟩ := wireOutcome_frame ho fun _ => ⟨_, _, _, _, _, _, _, _, _, rfl, .inl rfl⟩
    have k {α : Type} (f : State → α) := wireOutcome_keeps ho f
    exact ⟨hr, he, hm, k State.op rfl rfl, k State.base rfl rfl, k State.cfg rfl rfl, k State.present rfl rfl,
      k State.acc rfl rfl⟩
  · have ho := runFrame_outcome (latch := State.latchAddr (adr.setWidth 8)) h
    obtain ⟨hr, he, hm⟩ := wireOutcome_frame ho fun _ => ⟨_, _, _, _, _, _, _, _, _, rfl, .inl rfl⟩
    have k {α : Type} (f : State → α) := wireOutcome_keeps ho f
    exact ⟨hr, he, hm, k State.op rfl rfl, k State.val rfl rfl, k State.base rfl rfl, k State.cfg rfl rfl,
      k State.present rfl rfl, k State.acc rfl rfl⟩
  · obtain ⟨c, ho⟩ := execWriteConfig_outcome h
    obtain ⟨hr, he, hm⟩ := wireOutcome_frame ho fun _ => ⟨_, _, _, _, _, _, _, _, _, rfl, .inl rfl⟩
    have k {α : Type} (f : State → α) := wireOutcome_keeps ho f
    exact ⟨hr, he, hm, k State.op rfl rfl, k State.addr rfl rfl, k State.val rfl rfl, k State.base rfl rfl,
      k State.present rfl rfl, k State.acc rfl rfl⟩
  · have ho := runFrame_outcome (latch := State.verifyStart) h
    obtain ⟨hr, he, hm⟩ := wireOutcome_frame ho fun _ => ⟨_, _, _, _, _, _, _, _, _, rfl, .inr ⟨rfl, rfl⟩⟩
    have k {α : Type} (f : State → α) := wireOutcome_keeps ho f
    exact ⟨hr, he, hm, k State.op rfl rfl, k State.addr rfl rfl, k State.val rfl rfl, k State.base rfl rfl,
      k State.cfg rfl rfl, k State.acc rfl rfl⟩
  · have ho := runFrame_outcome (latch := fun u => (u.latchBase (adr.setWidth 8)).clearAcc) h
    obtain ⟨hr, he, hm⟩ := wireOutcome_frame ho fun _ => ⟨_, _, _, _, _, _, _, _, _, rfl, .inl rfl⟩
    have k {α : Type} (f : State → α) := wireOutcome_keeps ho f
    exact ⟨hr, he, hm, k State.op rfl rfl, k State.addr rfl rfl, k State.val rfl rfl, k State.cfg rfl rfl,
      k State.present rfl rfl⟩

end Sys2Proof.Proofs
end

section
/-!
The host operations SENDOP, WRREG and RDREG as the procedures of 41_opcode_and_register_primitives.md (R80, R82, R83), for
every remote: the answer of the primitive's frame is the end of its procedure.
-/

namespace Sys2Proof.Proofs

open Sys2Proof.Machine Sys2Proof.Safety Sys2Proof.Laws

/-- Settles O19: the frame that carries OP as its command byte, with no payload, is R80's. -/
theorem sendopRunsItsProcedure : Obligations.SendopRunsItsProcedure := by
  intro s op hq
  refine ⟨decodeOfEncodeIsTheInstruction s.dummyTx (.sendop op) rfl, ?_⟩
  rw [procSendop_eq]
  exact sendop_runs hq op

/-- Settles O20: the frame that carries the masked address and then VAL is R82's. -/
theorem wrregRunsItsProcedure : Obligations.WrregRunsItsProcedure := by
  intro s addr val hq
  refine ⟨decodeOfEncodeIsTheInstruction s.dummyTx (.wrreg addr val) rfl, ?_⟩
  rw [procWrreg_eq]
  exact wrreg_runs hq addr val

/-- Settles O21: the frame that carries the masked address and returns the byte its payload exchange received is R83's. -/
theorem rdregRunsItsProcedure : Obligations.RdregRunsItsProcedure := by
  intro s addr hq
  refine ⟨decodeOfEncodeIsTheInstruction s.dummyTx (.rdreg addr) rfl, ?_⟩
  rw [procRdreg_eq]
  exact rdreg_runs hq addr

end Sys2Proof.Proofs
end


section
/-!
The bulk operations of 42_bulk_config.md: WRCFG and VFYCFG as the procedures of R90 and R93, for every remote, and what
a verify makes of the 17 bytes it receives (R93 to R97).
-/

namespace Sys2Proof.Proofs

open Sys2Proof.Machine Sys2Proof.Safety Sys2Proof.Laws

/-! ### The procedures of R90 and R93 -/

theorem cfgComplete_toList (c : Cfg) : cfgComplete c.toList = true := by simp [cfgComplete]

/-- Settles O22: the frame that carries the bare write pattern and then the latched map is R90's. -/
theorem wrcfgRunsItsProcedure : Obligations.WrcfgRunsItsProcedure := by
  intro s cfg hq
  refine ⟨decodeOfEncodeIsTheInstruction s.dummyTx (.wrcfg cfg.toList) (cfgComplete_toList cfg), ?_⟩
  rw [procWrcfg_eq]
  exact wrcfg_runs hq cfg

/-- Settles O23: the frame that carries the bare read pattern and compares each byte with the latched map is R93's. -/
theorem vfycfgRunsItsProcedure : Obligations.VfycfgRunsItsProcedure := by
  intro s cfg hq
  refine ⟨decodeOfEncodeIsTheInstruction s.dummyTx (.vfycfg cfg.toList) (cfgComplete_toList cfg), ?_⟩
  rw [procVfycfg_eq]
  exact vfycfg_runs hq cfg

/-! ### What a verify makes of the bytes received -/

/-- One round of a verify's payload loop (R93): `present` keeps its value on equality and is cleared by a difference,
which is reported (R94). -/
theorem payloadStep_vfycfg (tx : Byte) (s : State) {b : Byte} (hb : (s.remote.exchange tx s.draws).1 = b) :
    (payloadStep .vfycfg tx s).present = (s.present && b == cfgByte s.cfg s.idx) ∧
    (payloadStep .vfycfg tx s).diag =
      s.diag ++ if cfgByte s.cfg s.idx != b then [.mismatch s.idx (cfgByte s.cfg s.idx) b] else [] := by
  subst hb
  by_cases h : (s.remote.exchange tx s.draws).1 = cfgByte s.cfg s.idx
  · simp [payloadStep, State.onPayload, State.verifyByte, State.exchange, h]
  · simp [payloadStep, State.onPayload, State.verifyByte, State.exchange, h, Ne.symm h]

/-- The comparing loop over the bytes `actual` (R93, R94): no early exit, a record for each index that differs and for
no other, and `present` stays set exactly when none does. -/
theorem procPayload_verify_compares (tx actual : Nat → Byte) (k : Nat) {s : State}
    (h : received ((List.range' s.idx k).map tx) s.draws s.remote = (List.range' s.idx k).map actual) :
    (procPayload tx (State.onPayload · .vfycfg) k s).present =
      (s.present && (List.range' s.idx k).all (fun i => actual i == cfgByte s.cfg i)) ∧
    (procPayload tx (State.onPayload · .vfycfg) k s).diag =
      s.diag ++ ((List.range' s.idx k).filter (fun i => cfgByte s.cfg i != actual i)).map
        (fun i => .mismatch i (cfgByte s.cfg i) (actual i)) := by
  induction k generalizing s with
  | zero => simp [procPayload]
  | succ k ih =>
    obtain ⟨hb, hrest⟩ := List.cons.inj h
    obtain ⟨ep, ed⟩ := payloadStep_vfycfg (tx s.idx) s hb
    obtain ⟨hp, hd⟩ := ih (s := payloadStep .vfycfg (tx s.idx) s) hrest
    have ec : (payloadStep .vfycfg (tx s.idx) s).cfg = s.cfg := rfl
    have ex : (payloadStep .vfycfg (tx s.idx) s).idx = s.idx + 1 := rfl
    rw [ep, ec, ex] at hp
    rw [ed, ec, ex] at hd
    rw [procPayload_succ, hp, hd, List.range'_succ, List.filter_cons]
    refine ⟨by simp [Bool.and_assoc], ?_⟩
    split <;> simp

/-- A list of 17 bytes by its indices. -/
theorem map_getD_range {rx : List Byte} (hl : rx.length = 17) : (List.range 17).map (rx.getD · 0) = rx :=
  map_cfgByte_range ⟨rx.toArray, by simpa using hl⟩

/-- 17 bytes are the map exactly when they agree with it at each index. -/
theorem all_eq_cfgByte {rx : List Byte} (hl : rx.length = 17) (c : Cfg) :
    (List.range 17).all (fun i => rx.getD i 0 == cfgByte c i) = decide (rx = c.toList) := by
  conv_rhs => rw [← map_getD_range hl, ← map_cfgByte_range c]
  rw [Bool.eq_iff_iff, decide_eq_true_iff, List.map_inj_left]
  simp

/-- What a frame of `p` receives in its payload exchanges, after the byte received with the command (R73). -/
theorem received_payload {p : Prim} {s : State} {c : Byte} {rx : List Byte} (h : answersTo p s = c :: rx) :
    received ((List.range p.payloadLen).map (txOf p s)) ((procBegin s).exchange (s.cmdByte p)).draws
      ((procBegin s).exchange (s.cmdByte p)).remote = rx := (List.cons.inj h).2

/-- A frame leaves `present` and the records as its payload loop does (R71, R72). -/
theorem frameOf_present_diag_eq_loop (p : Prim) (s : State) :
    (frameOf p s).present = (procPayload (txOf p s) (State.onPayload · p) p.payloadLen
      { (procBegin s).exchange (s.cmdByte p) with idx := 0 }).present ∧
    (frameOf p s).diag = (procPayload (txOf p s) (State.onPayload · p) p.payloadLen
      { (procBegin s).exchange (s.cmdByte p) with idx := 0 }).diag := ⟨rfl, rfl⟩

/-- A verify frame that receives `rx` after its command byte (R93 to R95, R97). -/
theorem frameOf_vfycfg_compares {s : State} {c : Byte} {rx : List Byte} (h : answersTo .vfycfg s = c :: rx) :
    (frameOf .vfycfg s).present = (s.present && decide (rx = s.cfg.toList)) ∧
    (frameOf .vfycfg s).diag = s.diag ++ mismatches s.cfg.toList rx := by
  have hrx := received_payload h
  have hl : rx.length = 17 := by simp [← hrx, Prim.payloadLen]
  rw [← map_getD_range hl] at hrx
  obtain ⟨hp, hd⟩ := procPayload_verify_compares (txOf .vfycfg s) (rx.getD · 0) Prim.vfycfg.payloadLen
    (s := { (procBegin s).exchange (s.cmdByte .vfycfg) with idx := 0 }) (by rwa [← List.range_eq_range'])
  obtain ⟨ep, ed⟩ := frameOf_present_diag_eq_loop .vfycfg s
  rw [ep, ed, hp, hd, ← List.range_eq_range', ← all_eq_cfgByte hl]
  exact ⟨rfl, rfl⟩

/-- Every payload exchange of a verify sends `DUMMY_TX` (R73). -/
theorem sentBy_vfycfg_zip (s : State) {c : Byte} {rx : List Byte} (hl : rx.length = 17) :
    (sentBy .vfycfg s).zip (c :: rx) = (0x40, c) :: rx.map (fun r => (s.dummyTx, r)) := by
  have ht : (List.range 17).map (txOf .vfycfg s) = rx.map (fun _ => s.dummyTx) := by
    rw [List.map_const', hl]
    rfl
  rw [List.map_prod_right_eq_zip, ← ht]
  rfl

/-- Settles O39: an oracle's bytes are what the verify compares, and `present` was set before the first. -/
theorem verifyComparesAllSeventeen : Obligations.VerifyComparesAllSeventeen := by
  intro s cfg c rx rest hq hl hr
  have ⟨_, hw, _⟩ := hq
  have hlen : (c :: rx).length = Prim.vfycfg.payloadLen + 1 := congrArg (· + 1) hl
  obtain ⟨u, hu, ht⟩ := vfycfg_runs hq cfg
  obtain ⟨-, -, -, hcfg, hmode⟩ := answered_operands .vfycfg (s.loseRet.latchCfg cfg).verifyStart
  have hbus := answered_bus_oracle (s := (s.loseRet.latchCfg cfg).verifyStart) hr hlen
  rw [sentBy_vfycfg_zip _ hl] at hbus
  obtain ⟨hpresent, hdiag⟩ := frameOf_vfycfg_compares (s := (s.loseRet.latchCfg cfg).verifyStart)
    (answersTo_oracle hr hlen)
  have hp : (frameOf .vfycfg (s.loseRet.latchCfg cfg).verifyStart).present = decide (rx = cfg.toList) := hpresent
  refine ⟨u, _, hu, ht, hbus, hp, hdiag, ?_, ?_, hmode, hcfg, isIdle_answered hw, rfl, rfl⟩
  · simp [answered, State.result, RetVal.word, hp]
  · simp [State.result, hp]

/-! ### A chip that answers one byte for ever -/

/-- A silent chip answers every exchange with its byte (R96 (a)). -/
theorem received_silent (txs : List Byte) (n : Nat) (z : Byte) :
    received txs n (.silent z) = List.replicate txs.length z := by
  induction txs generalizing n with
  | nil => rfl
  | cons tx txs ih => exact congrArg (z :: ·) (ih (n + 1))

theorem answersTo_silent {p : Prim} {s : State} {z : Byte} (hr : s.remote = .silent z) :
    answersTo p s = z :: List.replicate p.payloadLen z := by
  rw [answersTo, hr]
  exact (received_silent _ _ _).trans (by simp [sentBy, List.replicate_succ])

/-- Settles O40: the 17 bytes compared are all `z`. -/
theorem verifyOfASilentChip : Obligations.VerifyOfASilentChip := by
  intro s cfg z hq hr
  obtain ⟨u, hu, ht⟩ := vfycfg_runs hq cfg
  obtain ⟨hpresent, hdiag⟩ := frameOf_vfycfg_compares (s := (s.loseRet.latchCfg cfg).verifyStart)
    (answersTo_silent hr)
  exact ⟨u, _, hu, ht, hpresent.trans (decide_eq_decide.2 eq_comm), hdiag⟩

end Sys2Proof.Proofs
end

section
/-!
The result read of 43_result_read.md: the reassembler of R101 as three bytes side by side, RDRES as the procedure of R100
for every remote, and the read on the wire for any bytes received (R100 to R103).
-/

namespace Sys2Proof.Proofs

open Sys2Proof.Machine Sys2Proof.Safety Sys2Proof.Laws

/-! ### The reassembler -/

/-- R101: the first byte received is the most significant of the three. -/
theorem assemble_eq_append (b0 b1 b2 : Byte) : assemble b0 b1 b2 = b0 ++ b1 ++ b2 := by
  rw [← BitVec.setWidth_eq (b0 ++ b1 ++ b2), BitVec.setWidth_append_append_eq_shiftLeft_setWidth_or, assemble]

/-- Every 24-bit value is assembled from the three bytes it is cut into. -/
theorem assemble_extract (v : U24) :
    assemble (v.extractLsb' 16 8) (v.extractLsb' 8 8) (v.extractLsb' 0 8) = v := by
  rw [assemble_eq_append, BitVec.extractLsb'_append_extractLsb'_eq_extractLsb' (start₁ := 8) (len₁ := 8) rfl,
    BitVec.extractLsb'_append_extractLsb'_eq_extractLsb' (len₁ := 8) rfl, BitVec.extractLsb'_eq_self]

theorem toNat_assemble (b0 b1 b2 : Byte) :
    (assemble b0 b1 b2).toNat = b0.toNat * 65536 + b1.toNat * 256 + b2.toNat := by
  rw [assemble_eq_append, BitVec.toNat_append, BitVec.toNat_append, ← Nat.shiftLeft_add_eq_or_of_lt b2.isLt,
    ← Nat.shiftLeft_add_eq_or_of_lt b1.isLt]
  omega

/-- R101: the value is zero-extended into `RET`. -/
theorem result_word (v : U24) : (RetVal.result v).word = some (0x00#8 ++ v) :=
  congrArg some (BitVec.setWidth_eq_append (by decide))

/-- Settles O42: the assembled form is the three bytes side by side, and three steps from a cleared accumulator give
it. -/
theorem reassemblerFormsAgree : Obligations.ReassemblerFormsAgree :=
  ⟨fun v => ⟨⟨_, _, _, assemble_extract v⟩, result_word v⟩, rfl,
    fun _ b0 b1 b2 => ⟨rfl, accumulate_three b0 b1 b2, toNat_assemble b0 b1 b2⟩⟩

/-! ### The result read -/

/-- Settles O24: the frame that carries the unmasked base and accumulates its three payload bytes is R100's. -/
theorem rdresRunsItsProcedure : Obligations.RdresRunsItsProcedure := by
  intro s base hq
  refine ⟨decodeOfEncodeIsTheInstruction s.dummyTx (.rdres base) rfl, ?_⟩
  rw [procRdres_eq]
  exact rdres_runs hq base

/-- What a result read accumulates is the payload it receives, the first byte on top (R100, R101). -/
theorem frameOf_rdres_acc {s : State} {c b0 b1 b2 : Byte} (h : s.acc = 0)
    (hrx : answersTo .rdres s = [c, b0, b1, b2]) : (frameOf .rdres s).acc = b0 ++ b1 ++ b2 := by
  obtain ⟨_, _, _, _, hbytes, hacc⟩ := answersTo_rdres h
  cases hrx.symm.trans hbytes
  exact hacc.trans (assemble_eq_append b0 b1 b2)

/-- A frame leaves the base latch (R17). -/
theorem answered_base (p : Prim) (s : State) : (answered p s).base = s.base :=
  (congrArg State.base (frameOf_eq p s) :)

/-- Settles O41: an oracle's three payload bytes are what the frame accumulates, and only a verify writes `present`. -/
theorem resultIsThreeBytesMostSignificantFirst : Obligations.ResultIsThreeBytesMostSignificantFirst := by
  intro s base c b0 b1 b2 rest hq hr
  have ⟨_, hw, _⟩ := hq
  obtain ⟨u, hu, ht⟩ := rdres_runs hq base
  obtain ⟨-, -, -, -, hmode⟩ := answered_operands .rdres (s.loseRet.latchBase base).clearAcc
  obtain ⟨hpresent, -⟩ := frameOf_present_diag (p := .rdres) (by simp) (s.loseRet.latchBase base).clearAcc
  have hacc : (frameOf .rdres (s.loseRet.latchBase base).clearAcc).acc = b0 ++ b1 ++ b2 :=
    frameOf_rdres_acc rfl (answersTo_oracle (rx := [c, b0, b1, b2]) hr rfl)
  refine ⟨u, _, hu, ht, answered_bus_oracle (rx := [c, b0, b1, b2]) hr rfl, hacc, ?_, ?_, answered_base _ _, hpresent,
    hmode, isIdle_answered hw⟩
  · simp [answered, State.reply, State.result, result_word, hacc]
  · simp [State.result, hacc]

end Sys2Proof.Proofs
end

section
/-!
The workflows as R107 (44_configure_workflows.md): the steps between frames (R111), one verify round with both branches of
R108, and the whole workflow for any number of failed rounds.
-/

namespace Sys2Proof.Proofs

open Sys2Proof.Machine Sys2Proof.Safety Sys2Proof.Laws

/-! ### Between two frames -/

/-- A quiet host event is no event: the sequencer goes on as if nothing had been presented. -/
theorem step_of_quiet_event {s : State} (hin : s.inputs = []) : step { s with inputs := [.quiet] } = step s := by
  have hs : ({ s with inputs := [] } : State) = s := by rw [← hin]
  have hf : fetch s = fetchInternal s := by simp [fetch, hin]
  rw [step_eq_perform, step_eq_perform s, hf]
  exact congrArg (fun u => perform (fetchInternal u)) hs

/-- Settles O13: each of the four steps calls for its frame, and that frame is what the step runs. -/
theorem workflowStepRunsItsFrame : Obligations.WorkflowStepRunsItsFrame := by
  intro s hin hp
  refine ⟨fun hw => ?_, fun hw => ?_, fun hw => ?_, fun hw => ?_, step_of_quiet_event hin⟩
  all_goals exact step_eq_exec hin (by simp [workflowFrame, hp, hw])

/-- Settles O29: both codes decode to their workflow, whose Issue runs to the first verify. -/
theorem workflowsOpenAsR107Says : Obligations.WorkflowsOpenAsR107Says := fun _ hq =>
  ⟨rfl, rfl, issueWorkflow_opens hq .single, issueWorkflow_opens hq .dual⟩

/-- Settles O31: the frame of INIT_START, its settle, and the finish. -/
theorem workflowClosesAsR107Says : Obligations.WorkflowClosesAsR107Says := fun _ hp hw hin => after_closing hp hw hin

/-! ### One verify round -/

/-- Between two frames of a workflow at its verify, with nothing presented: where a round starts (R107 step 5, R111). -/
def AtVerify (s : State) : Prop := s.phase = .idle ∧ s.wstep = .wVerify ∧ s.inputs = []

/-- A failed verify leaves its record and its backoff, and the workflow comes back to the verify (R107 steps 6 to 9). -/
theorem procRound_of_not_present {s : State} (h : (procVerify s).present = false) :
    procRound s = { ((procVerify s).report .retryRound).emit (.wait Config.tBackoff) with wstep := .wVerify } :=
  if_neg (Bool.eq_false_iff.1 h)

section
variable {s : State} (hs : AtVerify s)
include hs

/-- A workflow's verify frame goes where R108 says. -/
theorem after_verify_frame {w : WStep} (hn : WStep.wVerify.afterFrame (procVerify s).present = some w) :
    after 22 s = .next { procVerify s with wstep := w } := by
  obtain ⟨hp, hw, hin⟩ := hs
  exact after_workflow_step (p := .vfycfg) (latch := State.verifyStart) hin (i := .readConfig)
    (by simp [workflowFrame, hp, hw]) rfl rfl rfl (by simp [hw]) (hw ▸ hn)

theorem atVerify_procRound_of_not_present (h : (procVerify s).present = false) : AtVerify (procRound s) := by
  obtain ⟨-, -, hin⟩ := hs
  rw [procRound_of_not_present h]
  exact ⟨rfl, rfl, by simp [hin]⟩

/-- R107 steps 5 to 9 when the verify fails: the frame, the record, and the backoff's two steps. -/
theorem after_failed_round (h : (procVerify s).present = false) : after 25 s = .next (procRound s) := by
  have hin : (procVerify s).inputs = [] := (procVerify_inputs s).trans hs.2.2
  have hframe : after 22 s = .next { procVerify s with wstep := .wRetryDiag } :=
    after_verify_frame hs (by rw [h]; rfl)
  have hrecord : step { procVerify s with wstep := .wRetryDiag } =
      .next { (procVerify s).report .retryRound with wstep := .wBackoff } :=
    step_eq_advance (s := { procVerify s with wstep := .wRetryDiag }) hin rfl
  have hbackoff : after 2 { (procVerify s).report .retryRound with wstep := .wBackoff } = .next (procRound s) := by
    rw [procRound_of_not_present h]
    exact after_workflow_wait (s := { (procVerify s).report .retryRound with wstep := .wBackoff }) hin rfl rfl rfl
  exact after_trans hframe (after_step hrecord hbackoff)

end

/-- Settles O30: by the branch of R108. -/
theorem verifyRoundBranchesOnPresent : Obligations.VerifyRoundBranchesOnPresent := by
  intro s hp hw hin
  cases h : (procVerify s).present with
  | true => exact ⟨after_successful_round hp hw hin h, by rw [procRound_of_present h]; rfl⟩
  | false => exact ⟨after_failed_round ⟨hp, hw, hin⟩ h, by rw [procRound_of_not_present h]; rfl⟩

/-! ### Any number of rounds -/

theorem procRounds_succ (n : Nat) (s : State) : procRounds (n + 1) s = procRounds n (procRound s) := rfl

theorem procRounds_succ_eq_procRound (n : Nat) (s : State) : procRounds (n + 1) s = procRound (procRounds n s) := by
  induction n generalizing s with
  | zero => rfl
  | succ n ih => exact ih (procRound s)

/-- `r` failed rounds from a verify come back to it, 25 steps each. -/
theorem after_failed_rounds (r : Nat) {s : State} (hs : AtVerify s)
    (hf : ∀ j, j < r → (procVerify (procRounds j s)).present = false) :
    after (25 * r) s = .next (procRounds r s) ∧ AtVerify (procRounds r s) := by
  induction r generalizing s with
  | zero => exact ⟨rfl, hs⟩
  | succ r ih =>
    have h0 : (procVerify s).present = false := hf 0 r.succ_pos
    obtain ⟨hrun, hat⟩ := ih (atVerify_procRound_of_not_present hs h0) fun j hj => hf (j + 1) (Nat.succ_lt_succ hj)
    refine ⟨?_, hat⟩
    rw [Nat.mul_succ, Nat.add_comm]
    exact after_trans (after_failed_round hs h0) hrun

theorem atVerify_procOpening {s : State} (hq : Quiet s) (m : Channels) : AtVerify (procOpening m s) :=
  ⟨rfl, rfl, (procOpening_inputs m s).trans hq.2.2⟩

/-- A workflow through its opening and `r` failed rounds (R107 steps 1 to 9). -/
theorem issueWorkflow_opens_and_fails {s : State} (hq : Quiet s) (m : Channels) :
    ∃ u, issueWorkflow m s = .next u ∧
      ∀ r, (∀ j, j < r → (procVerify (procRounds j (procOpening m s))).present = false) →
        after (29 + 25 * r) u = .next (procRounds r (procOpening m s)) := by
  obtain ⟨u, hu, hopen⟩ := issueWorkflow_opens hq m
  exact ⟨u, hu, fun r hf => after_trans hopen (after_failed_rounds r (atVerify_procOpening hq m) hf).1⟩

/-- R107 whole: the opening, `r` failed rounds, a successful one, and the closing. -/
theorem issueWorkflow_completes {s : State} (hq : Quiet s) (m : Channels) (r : Nat)
    (hf : ∀ j, j < r → (procVerify (procRounds j (procOpening m s))).present = false)
    (hsucc : (procVerify (procRounds r (procOpening m s))).present = true) :
    ∃ u, issueWorkflow m s = .next u ∧
      after (29 + 25 * r + 22 + 8) u = .next (procClosing (procRound (procRounds r (procOpening m s)))) := by
  obtain ⟨u, hu, hrun⟩ := issueWorkflow_opens_and_fails hq m
  obtain ⟨-, hp, hw, hin⟩ := after_failed_rounds r (atVerify_procOpening hq m) hf
  have hround := after_successful_round hp hw hin hsucc
  have hclose : after 8 (procRound (procRounds r (procOpening m s))) =
      .next (procClosing (procRound (procRounds r (procOpening m s)))) := by
    rw [procRound_of_present hsucc]
    exact after_closing rfl rfl (by simp [hin])
  exact ⟨u, hu, after_trans (after_trans (hrun r hf) hround) hclose⟩

/-- Settles O32: the opening, the failed rounds by induction on their number, the successful round and the closing. -/
theorem workflowIsR107ForEveryRoundCount : Obligations.WorkflowIsR107ForEveryRoundCount := by
  intro m r s hq hf hsucc
  rw [procRounds_succ_eq_procRound]
  obtain ⟨u, hu, hrun⟩ := issueWorkflow_completes hq m r hf hsucc
  exact ⟨u, by cases m <;> exact hu, hrun⟩

end Sys2Proof.Proofs
end

section
/-!
A workflow whose verify rounds all fail never ends (44_configure_workflows.md R109, R116): from the positions after the last
verify no step leads back to one, so a run that comes to a verify again has never been past it; and a silent chip is such
a remote (42_bulk_config.md R96).
-/

namespace Sys2Proof.Proofs

open Sys2Proof.Machine Sys2Proof.Safety Sys2Proof.Laws

/-! ### The positions past the last verify -/

/-- Past the last verify of a workflow, or outside every workflow (R111). -/
def Passed (s : State) : Prop := s.wstep = .wInit ∨ s.wstep = .wInitSettle ∨ s.wstep = .wFinish ∨ s.wstep = .wNone

/-- What a step does while nothing is presented: past the last verify it stays past it, and before that it answers
nothing and writes no `mode`. -/
def WentOn (s t : State) : Prop :=
  t.inputs = s.inputs ∧ (Passed s → Passed t) ∧ (Passed s ∨ (t.rets = s.rets ∧ t.mode = s.mode))

theorem wentOn_of_same_wstep {s t : State} (hin : t.inputs = s.inputs) (hw : t.wstep = s.wstep) (hr : t.rets = s.rets)
    (hm : t.mode = s.mode) : WentOn s t :=
  ⟨hin, fun h => by simpa only [Passed, hw] using h, .inr ⟨hr, hm⟩⟩

/-- The frame of a workflow step begins (R111). -/
theorem exec_wentOn {i : Instr} {s t : State} (hw : workflowFrame s = some i) (h : exec i s = .next t) : WentOn s t := by
  have hbusy : s.isIdle ≠ true := by
    obtain ⟨-, ⟨hw, -⟩ | ⟨hw, -⟩ | ⟨hw, -⟩ | ⟨hw, -⟩⟩ := workflowFrame_cases hw
    all_goals simp [State.isIdle, hw]
  rcases exec_cases h with rfl | ⟨p, l, hi, -⟩ | ⟨-, ⟨-, rfl⟩ | ⟨-, rfl⟩ | ⟨-, rfl⟩ | ⟨-, rfl⟩⟩ | ⟨m, hi, -⟩ |
    ⟨v, hi, -⟩
  case inr.inl | inr.inr.inr.inl | inr.inr.inr.inr => exact absurd hi hbusy
  all_goals exact wentOn_of_same_wstep rfl rfl rfl rfl

/-- The transitions of R74 keep the workflow's step; those of R111 lead forward, but for the backoff's, which starts
before the last verify. -/
theorem advance_wentOn {s t : State} (h : advance s = .next t) : WentOn s t := by
  rcases advance_cases h with ⟨-, -, rfl⟩ | ⟨d, -, -, rfl⟩ | ⟨-, hw, rfl⟩ | ⟨-, hw, rfl⟩ | ⟨w, -, ha, rfl⟩ |
    ⟨p, -, -, rfl⟩ | ⟨p, -, -, rfl⟩ | ⟨p, -, -, -, rfl⟩ | ⟨p, -, -, -, rfl⟩ | ⟨p, -, -, hw, rfl⟩ |
    ⟨p, w, -, -, -, ha, rfl⟩
  case inr.inr.inl => exact ⟨rfl, by simp [Passed, hw], .inr ⟨rfl, rfl⟩⟩
  case inr.inr.inr.inl => exact ⟨rfl, fun _ => .inr (.inr (.inr rfl)), .inl (by simp [Passed, hw])⟩
  case inr.inr.inr.inr.inl =>
    refine ⟨rfl, ?_, .inr ⟨rfl, rfl⟩⟩
    rcases afterWait_cases ha with ⟨hw, rfl⟩ | ⟨hw, rfl⟩ | ⟨hw, rfl⟩
    all_goals simp [Passed, hw]
  case inr.inr.inr.inr.inr.inr.inr.inl =>
    rw [payloadByte_eq]
    exact wentOn_of_same_wstep rfl rfl rfl rfl
  case inr.inr.inr.inr.inr.inr.inr.inr.inr.inl => exact ⟨rfl, id, .inl (by simp [Passed, hw])⟩
  case inr.inr.inr.inr.inr.inr.inr.inr.inr.inr =>
    refine ⟨rfl, ?_, .inr ⟨rfl, rfl⟩⟩
    rcases afterFrame_cases ha with ⟨hw, rfl⟩ | ⟨hw, rfl⟩ | ⟨hw, -, rfl⟩ | ⟨hw, -, rfl⟩ | ⟨hw, rfl⟩
    all_goals simp [Passed, hw]
  all_goals exact wentOn_of_same_wstep rfl rfl rfl rfl

theorem step_wentOn {s t : State} (hin : s.inputs = []) (h : step s = .next t) : WentOn s t := by
  cases hw : workflowFrame s with
  | some i => exact exec_wentOn hw ((step_eq_exec hin hw).symm.trans h)
  | none => exact advance_wentOn ((step_eq_advance hin hw).symm.trans h)

/-! ### Runs that are not past the last verify -/

/-- The first step of a run. -/
theorem step_of_after {k : Nat} {s t : State} (h : after (k + 1) s = .next t) :
    ∃ u, step s = .next u ∧ after k u = .next t := by
  simp only [after] at h
  split at h
  case h_1 u hu => exact ⟨u, hu, h⟩
  all_goals cases h

theorem after_keeps_passed {k : Nat} {s t : State} (hin : s.inputs = []) (hs : Passed s) (h : after k s = .next t) :
    Passed t := by
  induction k generalizing s with
  | zero =>
    cases h
    exact hs
  | succ k ih =>
    obtain ⟨u, hu, hrun⟩ := step_of_after h
    obtain ⟨hin', hp, -⟩ := step_wentOn hin hu
    exact ih (hin'.trans hin) (hp hs) hrun

/-- A run that ends before the last verify has been before it all the time: no `Ret` has come and `mode` has not been
written. -/
theorem after_of_not_passed {k n : Nat} {s e : State} (hin : s.inputs = []) (h : after (k + n) s = .next e)
    (he : ¬ Passed e) : ∃ t, after k s = .next t ∧ ¬ Passed t ∧ t.rets = s.rets ∧ t.mode = s.mode := by
  have hs : ¬ Passed s := fun hs => he (after_keeps_passed hin hs h)
  induction k generalizing s with
  | zero => exact ⟨s, rfl, hs, rfl, rfl⟩
  | succ k ih =>
    rw [Nat.succ_add] at h
    obtain ⟨u, hu, hrun⟩ := step_of_after h
    obtain ⟨hin', -, hkept⟩ := step_wentOn hin hu
    obtain ⟨hr, hm⟩ := hkept.resolve_left hs
    replace hin' := hin'.trans hin
    obtain ⟨t, ht, hnp, hr', hm'⟩ := ih hin' hrun fun hu => he (after_keeps_passed hin' hu hrun)
    exact ⟨t, after_step hu ht, hnp, hr'.trans hr, hm'.trans hm⟩

/-! ### The hang -/

theorem not_passed_of_atVerify {s : State} (h : AtVerify s) : ¬ Passed s := by
  obtain ⟨-, hw, -⟩ := h
  simp [Passed, hw]

/-- R109: while every round fails, any number of steps leaves the workflow at or before a verify. -/
theorem workflow_hangs {s : State} (hq : Quiet s) (m : Channels)
    (hf : ∀ j, (procVerify (procRounds j (procOpening m s))).present = false) :
    ∃ u, issueWorkflow m s = .next u ∧
      (∀ j, after (29 + 25 * j) u = .next (procRounds j (procOpening m s))) ∧
      ∀ k, ∃ t, after k u = .next t ∧ ¬ Passed t ∧ t.rets = s.rets ∧ t.mode = s.mode := by
  obtain ⟨u, hu, hrun⟩ := issueWorkflow_opens_and_fails hq m
  obtain ⟨⟨hmode, -, -, -, -, hrets, hin⟩, -⟩ := issueWorkflow_frame hu
  refine ⟨u, hu, fun j => hrun j fun i _ => hf i, fun k => ?_⟩
  obtain ⟨-, hat⟩ := after_failed_rounds k (atVerify_procOpening hq m) fun i _ => hf i
  have hlong : after (k + (29 + 24 * k)) u = .next (procRounds k (procOpening m s)) := by
    rw [show k + (29 + 24 * k) = 29 + 25 * k by omega]
    exact hrun k fun i _ => hf i
  obtain ⟨t, ht, hnp, hr, hm⟩ := after_of_not_passed (hin.trans hq.2.2) hlong (not_passed_of_atVerify hat)
  exact ⟨t, ht, hnp, hr.trans hrets, hm.trans hmode⟩

/-- R96 (a): a chip that answers one byte for ever fails every round while the preset is not 17 times that byte. -/
theorem silent_rounds_fail (m : Channels) {s : State} {z : Byte} (hr : s.remote = .silent z)
    (hne : (s.preset m).toList ≠ List.replicate 17 z) (j : Nat) :
    (procVerify (procRounds j (procOpening m s))).present = false := by
  obtain ⟨hopen, hcfg⟩ := opening_silent m hr
  obtain ⟨hrounds, hkept⟩ := rounds_silent j hopen
  obtain ⟨-, -, hall⟩ := verify_silent hrounds
  rw [hkept, hcfg] at hall
  refine Bool.eq_false_iff.2 fun hp => hne ?_
  rw [← map_cfgByte_range, List.eq_replicate_iff]
  exact ⟨by simp, by simpa using hall hp⟩

/-- Settles O35: by the runs that end at a verify, which are as long as one likes, and the silent chip as one remote that
makes them. -/
theorem workflowHangsOnASilentChip : Obligations.WorkflowHangsOnASilentChip := by
  refine ⟨fun m s hq hf => ?_, fun m s z hr hne => silent_rounds_fail m hr hne⟩
  obtain ⟨u, hu, hrounds, hrun⟩ := workflow_hangs hq m hf
  refine ⟨u, by cases m <;> exact hu, hrounds, fun k => ?_⟩
  obtain ⟨t, ht, hnp, hr, hm⟩ := hrun k
  obtain ⟨hinit, hsettle, hfinish, hnone⟩ : t.wstep ≠ .wInit ∧ t.wstep ≠ .wInitSettle ∧ t.wstep ≠ .wFinish ∧
      t.wstep ≠ .wNone := by simpa [Passed] using hnp
  exact ⟨t, ht, busy_of_position (.inr hnone), hr, hm, hinit, hsettle, hfinish⟩

end Sys2Proof.Proofs
end

section
/-!
A workflow against an oracle that fails some rounds and then answers the preset: its whole bus trace and its records
(44_configure_workflows.md R114, R115), and their counts.
-/

namespace Sys2Proof.Proofs

open Sys2Proof.Machine Sys2Proof.Safety Sys2Proof.Laws

/-! ### What a frame takes from an oracle -/

/-- An oracle has used up the bytes it answered (R43). -/
theorem remoteAfter_oracle {txs rx : List Byte} (hl : rx.length = txs.length) (n : Nat) (rest : List Byte) :
    remoteAfter txs n (.oracle (rx ++ rest)) = .oracle rest := by
  induction txs generalizing n rx with
  | nil =>
    rw [List.length_eq_zero_iff.1 hl]
    rfl
  | cons tx txs ih =>
    obtain ⟨b, rx, rfl⟩ := List.exists_cons_of_length_eq_add_one hl
    exact ih (Nat.succ.inj hl) (n + 1)

theorem frameOf_oracle {p : Prim} {s : State} {rx rest : List Byte} (hr : s.remote = .oracle (rx ++ rest))
    (hl : rx.length = p.payloadLen + 1) :
    (frameOf p s).bus = s.bus ++ frameEvents ((sentBy p s).zip rx) ∧ (frameOf p s).remote = .oracle rest := by
  obtain ⟨hb, hrem⟩ := frameOf_bus_remote p s
  rw [answersTo_oracle hr hl] at hb
  rw [hr] at hrem
  exact ⟨hb, hrem.trans (remoteAfter_oracle (by simpa [sentBy] using hl) _ _)⟩

@[simp] theorem frameOf_dummyTx (p : Prim) (s : State) : (frameOf p s).dummyTx = s.dummyTx :=
  (congrArg State.dummyTx (frameOf_eq p s) :)

/-- What the frames of a workflow leave alone until its end: the operand map, the workflow's latch, `DUMMY_TX` and the
answers. -/
def SameWorkflow (s t : State) : Prop :=
  t.cfg = s.cfg ∧ t.wsel = s.wsel ∧ t.dummyTx = s.dummyTx ∧ t.rets = s.rets

theorem SameWorkflow.trans {s t u : State} (h : SameWorkflow s t) (h' : SameWorkflow t u) : SameWorkflow s u := by
  obtain ⟨hc, hw, hd, hr⟩ := h
  obtain ⟨hc', hw', hd', hr'⟩ := h'
  exact ⟨hc'.trans hc, hw'.trans hw, hd'.trans hd, hr'.trans hr⟩

/-! ### The opening and the closing -/

/-- POWER_RESET, its settle and the bulk write of `cfg` (R107 steps 1 to 3), with the bytes received. -/
def openingEvents (cfg : Cfg) (a : Byte) (w : List Byte) : List BusEvent :=
  frameEvents [(0x30, a)] ++ [.wait Config.tSettleReset] ++ frameEvents ((0x80 :: cfg.toList).zip w)

/-- INIT_START and its settle (R107 steps 10 and 11), with the byte received. -/
def closingEvents (c : Byte) : List BusEvent := frameEvents [(0x18, c)] ++ [.wait Config.tSettleInit]

theorem procOpening_oracle (m : Channels) {s : State} {a : Byte} {w rest : List Byte} (hl : w.length = 18)
    (hr : s.remote = .oracle (a :: (w ++ rest))) :
    (procOpening m s).remote = .oracle rest ∧
    (procOpening m s).bus = s.bus ++ openingEvents (s.preset m) a w ∧
    (procOpening m s).dummyTx = s.dummyTx ∧ (procOpening m s).rets = s.rets := by
  obtain ⟨hb, hr⟩ := frameOf_oracle (p := .sendop) (s := workflowLatched m s) (rx := [a]) hr rfl
  obtain ⟨hb', hr'⟩ := frameOf_oracle (p := .wrcfg) (s := afterPowerReset m s) hr hl
  have hcfg : (afterPowerReset m s).cfg = s.preset m := by simp [afterPowerReset, workflowLatched]
  rw [sentBy_wrcfg, hcfg] at hb'
  rw [procOpening_eq]
  refine ⟨hr', hb'.trans ?_, ?_, ?_⟩
  · simp only [afterPowerReset, emit_bus, hb, openingEvents, List.append_assoc]
    rfl
  · simp [afterPowerReset, workflowLatched]
  · simp [afterPowerReset, workflowLatched]

theorem procClosing_oracle {s : State} {c : Byte} {rest : List Byte} (hr : s.remote = .oracle (c :: rest)) :
    (procClosing s).remote = .oracle rest ∧ (procClosing s).bus = s.bus ++ closingEvents c ∧
    (procClosing s).rets = s.rets ++ [.bool true] := by
  obtain ⟨hb, hr⟩ := frameOf_oracle (p := .sendop) (s := s.latchOp Config.opcInit) (rx := [c]) hr rfl
  rw [procClosing_eq]
  refine ⟨hr, ?_, ?_⟩
  · simp only [settledAndFinished, reply_bus, emit_bus, hb, closingEvents, List.append_assoc]
    rfl
  · simp [settledAndFinished]

/-! ### The rounds -/

/-- A verify frame that receives `f` (R93): the byte with the command, then the 17 bytes compared. -/
def verifyEvents (dummy : Byte) (f : Byte × List Byte) : List BusEvent :=
  frameEvents ((0x40, f.1) :: f.2.map (fun r => (dummy, r)))

/-- A failed round on the bus (R107 steps 5 to 9): the verify and the backoff. -/
def failedRoundEvents (dummy : Byte) (f : Byte × List Byte) : List BusEvent :=
  verifyEvents dummy f ++ [.wait Config.tBackoff]

/-- The records of a failed round: the mismatches (R94), then the round's own (R107 step 7). -/
def failedRoundRecords (cfg : Cfg) (f : Byte × List Byte) : List DiagRecord :=
  mismatches cfg.toList f.2 ++ [.retryRound]

theorem procVerify_sameWorkflow (s : State) : SameWorkflow s (procVerify s) := by
  simp [SameWorkflow, procVerify_eq]

theorem procVerify_oracle {s : State} {f : Byte × List Byte} {rest : List Byte} (hl : f.2.length = 17)
    (hr : s.remote = .oracle (f.1 :: f.2 ++ rest)) :
    (procVerify s).present = decide (f.2 = s.cfg.toList) ∧ (procVerify s).remote = .oracle rest ∧
    (procVerify s).bus = s.bus ++ verifyEvents s.dummyTx f ∧
    (procVerify s).diag = s.diag ++ mismatches s.cfg.toList f.2 := by
  have hlen : (f.1 :: f.2).length = Prim.vfycfg.payloadLen + 1 := congrArg (· + 1) hl
  obtain ⟨hb, hrem⟩ := frameOf_oracle (s := s.verifyStart) hr hlen
  obtain ⟨hp, hd⟩ := frameOf_vfycfg_compares (s := s.verifyStart) (answersTo_oracle hr hlen)
  rw [sentBy_vfycfg_zip _ hl] at hb
  exact ⟨hp, hrem, hb, hd⟩

theorem failed_round_oracle {s : State} {f : Byte × List Byte} {rest : List Byte} (hl : f.2.length = 17)
    (hne : f.2 ≠ s.cfg.toList) (hr : s.remote = .oracle (f.1 :: f.2 ++ rest)) :
    (procVerify s).present = false ∧ (procRound s).remote = .oracle rest ∧
    (procRound s).bus = s.bus ++ failedRoundEvents s.dummyTx f ∧
    (procRound s).diag = s.diag ++ failedRoundRecords s.cfg f ∧ SameWorkflow s (procRound s) := by
  obtain ⟨hp, hrem, hb, hd⟩ := procVerify_oracle hl hr
  rw [decide_eq_false hne] at hp
  rw [procRound_of_not_present hp]
  refine ⟨hp, hrem, ?_, ?_, ?_⟩
  · simp [hb, failedRoundEvents]
  · simp [hd, failedRoundRecords]
  · simpa [SameWorkflow] using procVerify_sameWorkflow s

/-- Rounds that receive anything but the operand map all fail, and add their events and records in order. -/
theorem failed_rounds_oracle (failed : List (Byte × List Byte)) {s : State} {rest : List Byte}
    (hf : ∀ f ∈ failed, f.2.length = 17 ∧ f.2 ≠ s.cfg.toList)
    (hr : s.remote = .oracle (failed.flatMap (fun f => f.1 :: f.2) ++ rest)) :
    (∀ j, j < failed.length → (procVerify (procRounds j s)).present = false) ∧
    (procRounds failed.length s).remote = .oracle rest ∧
    (procRounds failed.length s).bus = s.bus ++ failed.flatMap (failedRoundEvents s.dummyTx) ∧
    (procRounds failed.length s).diag = s.diag ++ failed.flatMap (failedRoundRecords s.cfg) ∧
    SameWorkflow s (procRounds failed.length s) := by
  induction failed generalizing s with
  | nil => exact ⟨nofun, hr, (List.append_nil _).symm, (List.append_nil _).symm, rfl, rfl, rfl, rfl⟩
  | cons f failed ih =>
    rw [List.flatMap_cons, List.append_assoc] at hr
    obtain ⟨⟨hl, hne⟩, hrest⟩ := List.forall_mem_cons.1 hf
    obtain ⟨hp, hrem, hb, hd, hsame⟩ := failed_round_oracle hl hne hr
    have ⟨hcfg, _, hdummy, _⟩ := hsame
    rw [← hcfg] at hrest
    obtain ⟨hp', hrem', hb', hd', hsame'⟩ := ih hrest hrem
    rw [hb, hdummy, List.append_assoc] at hb'
    rw [hd, hcfg, List.append_assoc] at hd'
    refine ⟨fun j hj => ?_, hrem', hb', hd', hsame.trans hsame'⟩
    cases j with
    | zero => exact hp
    | succ j => exact hp' j (Nat.lt_of_succ_lt_succ hj)

theorem mismatches_self (l : List Byte) : mismatches l l = [] := by simp [mismatches]

/-- A round that receives the operand map succeeds, with no record (R93, R107). -/
theorem successful_round_oracle {s : State} {b : Byte} {rest : List Byte}
    (hr : s.remote = .oracle (b :: s.cfg.toList ++ rest)) :
    (procVerify s).present = true ∧ (procRound s).remote = .oracle rest ∧
    (procRound s).bus = s.bus ++ verifyEvents s.dummyTx (b, s.cfg.toList) ∧
    (procRound s).diag = s.diag ∧ SameWorkflow s (procRound s) := by
  obtain ⟨hp, hrem, hb, hd⟩ := procVerify_oracle (f := (b, s.cfg.toList)) (by simp) hr
  rw [decide_eq_true rfl] at hp
  rw [mismatches_self, List.append_nil] at hd
  rw [procRound_of_present hp]
  exact ⟨hp, hrem, hb, hd, procVerify_sameWorkflow s⟩

/-! ### The whole workflow -/

/-- R114's trace, with any failed rounds before the last one. -/
def workflowEvents (dummy : Byte) (cfg : Cfg) (a : Byte) (w : List Byte) (failed : List (Byte × List Byte))
    (b c : Byte) : List BusEvent :=
  openingEvents cfg a w ++ failed.flatMap (failedRoundEvents dummy) ++ verifyEvents dummy (b, cfg.toList) ++
    closingEvents c

/-- How a workflow leaves the engine (R110): idle, with `present`, `mode` and its answer. -/
def Configured (m : Channels) (s t : State) : Prop :=
  t.isIdle = true ∧ t.present = true ∧ t.mode = m.toMode ∧ t.cs = .high ∧ t.session = .closed ∧ t.ret = 1 ∧
  t.rets = s.rets ++ [.bool true]

/-- A workflow whose remote fails the listed rounds and then answers the preset, from its Issue to its `Ret`. -/
theorem issueWorkflow_oracle {m : Channels} {s : State} {a b c : Byte} {w rest : List Byte}
    {failed : List (Byte × List Byte)} (hq : Quiet s) (hl : w.length = 18)
    (hf : ∀ f ∈ failed, f.2.length = 17 ∧ f.2 ≠ (s.preset m).toList)
    (hr : s.remote = .oracle ([a] ++ w ++ failed.flatMap (fun f => f.1 :: f.2) ++ ([b] ++ (s.preset m).toList) ++ [c] ++
      rest)) :
    ∃ u t, issueWorkflow m s = .next u ∧ after (29 + 25 * failed.length + 22 + 8) u = .next t ∧ Configured m s t ∧
      t.remote = .oracle rest ∧
      t.bus = s.bus ++ workflowEvents s.dummyTx (s.preset m) a w failed b c ∧
      t.diag = s.diag ++ failed.flatMap (failedRoundRecords (s.preset m)) := by
  simp only [List.append_assoc, List.singleton_append] at hr
  obtain ⟨hopenr, hopenb, hopendummy, hopenrets⟩ := procOpening_oracle m hl hr
  obtain ⟨hcfg, hwsel, hdiag, -⟩ := procOpening_kept m s
  rw [← hcfg] at hf hopenr
  obtain ⟨hfail, hfr, hfb, hfd, hfcfg, hfwsel, hfdummy, hfrets⟩ := failed_rounds_oracle failed hf hopenr
  rw [← hfcfg] at hfr
  obtain ⟨hp, hsr, hsb, hsd, -, hswsel, -, hsrets⟩ := successful_round_oracle hfr
  obtain ⟨hcr, hcb, hcrets⟩ := procClosing_oracle hsr
  obtain ⟨hkept, -⟩ := procRound_kept hp
  obtain ⟨hpresent, hmode, hret, hcd, -⟩ := procClosing_kept (procRound (procRounds failed.length (procOpening m s)))
  obtain ⟨u, hu, hrun⟩ := issueWorkflow_completes hq m failed.length hfail hp
  refine ⟨u, _, hu, hrun, ⟨rfl, hpresent.trans hkept, ?_, rfl, rfl, hret, ?_⟩, hcr, ?_, ?_⟩
  · rw [hmode, hswsel, hfwsel, hwsel]
  · rw [hcrets, hsrets, hfrets, hopenrets]
  · rw [hcb, hsb, hfb, hopenb, hfdummy, hopendummy, hfcfg, hcfg]
    simp only [workflowEvents, List.append_assoc]
  · rw [hcd, hsd, hfd, hdiag, hcfg]

/-- Settles O34: the trace of a workflow with no failed round. -/
theorem workflowTraceWhenFirstRoundSucceeds : Obligations.WorkflowTraceWhenFirstRoundSucceeds := by
  intro m s a b c w rest hq hl hr
  obtain ⟨u, t, hu, ht, ⟨hidle, hp, hmode, -, -, -, hrets⟩, -, hb, hd⟩ :=
    issueWorkflow_oracle (m := m) (failed := []) (b := b) (c := c) hq hl nofun (by simpa using hr)
  refine ⟨u, t, by cases m <;> exact hu, ht, ?_, by simpa using hd, hp, hmode, hrets, hidle⟩
  simpa [workflowEvents, openingEvents, verifyEvents, closingEvents] using hb

/-! ### The counts -/

section
variable (bus bus' : List BusEvent)

@[simp] theorem xferCount_append : xferCount (bus ++ bus') = xferCount bus + xferCount bus' := by simp [xferCount]

@[simp] theorem frameCount_append : frameCount (bus ++ bus') = frameCount bus + frameCount bus' :=
  List.count_append

@[simp] theorem waitCount_append (d : Nat) : waitCount d (bus ++ bus') = waitCount d bus + waitCount d bus' :=
  List.count_append

end

@[simp] theorem retryCount_append (diag diag' : List DiagRecord) :
    retryCount (diag ++ diag') = retryCount diag + retryCount diag' := List.count_append

@[simp] theorem xferCount_nil : xferCount [] = 0 := rfl
@[simp] theorem frameCount_nil : frameCount [] = 0 := rfl
@[simp] theorem waitCount_nil (d : Nat) : waitCount d [] = 0 := rfl

@[simp] theorem xferCount_frameEvents (xs : List (Byte × Byte)) : xferCount (frameEvents xs) = xs.length := by
  simpa using (counts_append_frameEvents [] xs).1

@[simp] theorem frameCount_frameEvents (xs : List (Byte × Byte)) : frameCount (frameEvents xs) = 1 := by
  simpa using (counts_append_frameEvents [] xs).2

/-- R76 (d): no wait lies inside a frame. -/
@[simp] theorem waitCount_frameEvents (d : Nat) (xs : List (Byte × Byte)) : waitCount d (frameEvents xs) = 0 := by
  simp [waitCount, frameEvents, openEvent, List.count_eq_zero]

section
variable (d : Nat) (bus : List BusEvent)

@[simp] theorem xferCount_cons_wait : xferCount (.wait d :: bus) = xferCount bus := rfl

@[simp] theorem frameCount_cons_wait : frameCount (.wait d :: bus) = frameCount bus := by simp [frameCount]

@[simp] theorem waitCount_cons_wait (e : Nat) :
    waitCount d (.wait e :: bus) = waitCount d bus + if e = d then 1 else 0 := by
  simp [waitCount, List.count_cons]

end

section
variable (dummy : Byte) {failed : List (Byte × List Byte)} (hf : ∀ f ∈ failed, f.2.length = 17)
include hf

/-- The failed rounds: a frame of 18 exchanges and a backoff each, and no settle. -/
theorem counts_failed_rounds :
    frameCount (failed.flatMap (failedRoundEvents dummy)) = failed.length ∧
    xferCount (failed.flatMap (failedRoundEvents dummy)) = 18 * failed.length ∧
    ∀ d, waitCount d (failed.flatMap (failedRoundEvents dummy)) = if Config.tBackoff = d then failed.length else 0 := by
  induction failed with
  | nil => simp
  | cons f failed ih =>
    obtain ⟨hl, hf⟩ := List.forall_mem_cons.1 hf
    obtain ⟨hframes, hxfers, hwaits⟩ := ih hf
    refine ⟨?_, ?_, fun d => ?_⟩
    · simp [failedRoundEvents, verifyEvents, hframes]
      omega
    · simp [failedRoundEvents, verifyEvents, hxfers, hl]
      omega
    · simp only [List.flatMap_cons, waitCount_append, hwaits]
      simp [failedRoundEvents, verifyEvents]
      split <;> omega

/-- R114's counts: 4 frames with 38 exchanges in all and one wait of each settle, and what the failed rounds add. -/
theorem counts_workflowEvents (cfg : Cfg) (a b c : Byte) {w : List Byte} (hl : w.length = 18) :
    frameCount (workflowEvents dummy cfg a w failed b c) = 4 + failed.length ∧
    xferCount (workflowEvents dummy cfg a w failed b c) = 38 + 18 * failed.length ∧
    waitCount Config.tSettleReset (workflowEvents dummy cfg a w failed b c) = 1 ∧
    waitCount Config.tBackoff (workflowEvents dummy cfg a w failed b c) = failed.length ∧
    waitCount Config.tSettleInit (workflowEvents dummy cfg a w failed b c) = 1 := by
  obtain ⟨hframes, hxfers, hwaits⟩ := counts_failed_rounds dummy hf
  simp only [workflowEvents, openingEvents, verifyEvents, closingEvents]
  refine ⟨?_, ?_, ?_, ?_, ?_⟩
  · simp [hframes]
    omega
  · simp [hxfers, hl]
    omega
  all_goals simp [hwaits, Config.tSettleReset, Config.tBackoff, Config.tSettleInit]

end

/-- The records of the failed rounds: one `RetryRound` each. -/
theorem retryCount_failed_rounds (cfg : Cfg) (failed : List (Byte × List Byte)) :
    retryCount (failed.flatMap (failedRoundRecords cfg)) = failed.length := by
  have hm (f : Byte × List Byte) : retryCount (failedRoundRecords cfg f) = 1 := by
    simp [retryCount, failedRoundRecords, mismatches, List.count_eq_zero]
  induction failed with
  | nil => rfl
  | cons f failed ih => rw [List.flatMap_cons, retryCount_append, hm, ih, List.length_cons, Nat.add_comm]

/-- Settles O33: the engine as a workflow leaves it, and the counts read off its trace. -/
theorem workflowCountsForEveryRoundCount : Obligations.WorkflowCountsForEveryRoundCount := by
  intro m s a b w failed c rest hq hl hf hr
  obtain ⟨u, t, hu, ht, ⟨hidle, hp, hmode, hcs, hse, hret, hrets⟩, hrem, hb, hd⟩ := issueWorkflow_oracle hq hl hf hr
  obtain ⟨hframes, hxfers, hreset, hbackoff, hinit⟩ :=
    counts_workflowEvents s.dummyTx (fun f hm => (hf f hm).1) (s.preset m) a b c hl
  refine ⟨u, t, _, by cases m <;> exact hu, ht, hidle, hp, hmode, hcs, hse, hret, hrets, hrem, ?_, ?_, ?_, ?_, ?_, ?_⟩
  · rw [hb, frameCount_append, hframes, Nat.add_assoc]
  · rw [hb, xferCount_append, hxfers, Nat.add_assoc]
  · rw [hb, waitCount_append, hreset]
  · rw [hb, waitCount_append, hbackoff]
  · rw [hb, waitCount_append, hinit]
  · rw [hd, retryCount_append, retryCount_failed_rounds]

end Sys2Proof.Proofs
end

section
/-!
The status accessors (45_status_accessors.md R120, R121): an idle engine answers at once, a busy one not at all.
-/

namespace Sys2Proof.Proofs

open Sys2Proof.Machine Sys2Proof.Safety Sys2Proof.Laws

/-- An answer true or false is 1 or 0 in RET (R19), and the Ret of it; nothing else is written. -/
theorem reply_bool (b : Bool) (s : State) :
    s.reply (.bool b) = { s with ret := if b then 1 else 0, rets := s.rets ++ [.bool b] } := rfl

/-- R13: a free position is an idle engine, whatever the host has still to present. -/
theorem issueAccessor_of_idle {s : State} (hp : s.phase = .idle) (hw : s.wstep = .wNone) (v : RetVal) :
    issueAccessor v s = .next (s.reply v) := by
  have hi : s.isIdle = true := isIdle_iff.2 ⟨hp, hw⟩
  simp [issueAccessor, State.busy, hi]

/-- Settles O25: ISPRESENT is the accessor that answers `present`. -/
theorem ispresentAnswersAtOnce : Obligations.IspresentAnswersAtOnce := by
  refine ⟨by decide, fun s hp hw => ?_, fun _ hb => issueAccessor_of_busy hb _⟩
  calc exec .ispresent s
      = .next (s.reply (.bool s.present)) := issueAccessor_of_idle hp hw _
    _ = _ := by rw [reply_bool]

/-- Settles O26: ISDUAL is the accessor that answers whether `mode` is Dual. -/
theorem isdualAnswersAtOnce : Obligations.IsdualAnswersAtOnce := by
  refine ⟨by decide, fun s hp hw => ?_, fun _ hb => issueAccessor_of_busy hb _⟩
  calc exec .isdual s
      = .next (s.reply (.bool (decide (s.mode = .dual)))) := issueAccessor_of_idle hp hw _
    _ = _ := by simp only [reply_bool, decide_eq_true_eq]

end Sys2Proof.Proofs
end

section
/-!
Reset and the idle engine (70_reset_and_hazards.md R140 to R143).
-/

namespace Sys2Proof.Proofs

open Sys2Proof.Machine Sys2Proof.Safety Sys2Proof.Laws

section
variable {s : State} (hw : s.wstep = .wNone)
include hw

/-- R111: `W_NONE` calls for no frame, whatever the phase. -/
theorem workflowFrame_eq_none_of_wNone : workflowFrame s = none := by simp [workflowFrame, hw]

theorem advance_of_idle (hp : s.phase = .idle) : advance s = .next s := by simp [advance, hp, hw]

end

/-- Settles O14: no frame is called for, so the step is a transition of the sequencer, and from the idle position that
transition leaves the state (log entry 29). -/
theorem idleEngineDoesNothing : Obligations.IdleEngineDoesNothing := by
  intro s ⟨hp, hw, hin⟩
  calc step s
      = advance s := step_eq_advance hin (workflowFrame_eq_none_of_wNone hw)
    _ = .next s := advance_of_idle hw hp

/-- R142: a reset is heard at every position, ahead of whatever is in progress. -/
theorem step_of_reset {s : State} {rest : List HostEvent} (hin : s.inputs = .reset :: rest) :
    step s = .next ({ s with inputs := rest } : State).engineReset := by
  simp [step, fetch, hin]

/-- Settles O18: the next state is the engine reset of this one, which reads only what it keeps, so neither the position
nor anything latched or received in the abandoned operation can reach it. -/
theorem resetAbandonsTheOperation : Obligations.ResetAbandonsTheOperation := by
  intro s rest hin
  exact ⟨_, step_of_reset hin, by simp [State.engineReset, State.reset]⟩

end Sys2Proof.Proofs
end

section
/-!
The remote through a step (20_memory.md R43, R44): what `exec` and `advance` may do to it, and that its memories keep their
canonical form (log entry 20).
-/

namespace Sys2Proof.Proofs

open Sys2Proof.Machine Sys2Proof.Safety Sys2Proof.Laws

/-- An instruction reaches the remote only by the chip-select of the frame it begins (R74 row 1). -/
theorem exec_remote {i : Instr} {s t : State} (h : exec i s = .next t) :
    t.remote = s.remote ∨ t.remote = s.remote.onCsAssert := by
  rcases exec_cases h with rfl | ⟨p, l, -, hl, rfl⟩ | ⟨-, hstep⟩ | ⟨m, -, rfl⟩ | ⟨v, -, rfl⟩
  · exact .inl rfl
  · obtain ⟨op, addr, val, base, cfg, acc, present, ret, draws, rfl, -⟩ := hl
    exact .inr rfl
  · rcases hstep with ⟨-, rfl⟩ | ⟨-, rfl⟩ | ⟨-, rfl⟩ | ⟨-, rfl⟩
    all_goals exact .inr rfl
  · exact .inl rfl
  · exact .inl rfl

/-- A transition of the sequencer reaches the remote only by an exchange (R74 rows 3 and 4). -/
theorem advance_remote {s t : State} (h : advance s = .next t) :
    t.remote = s.remote ∨ ∃ tx n, t.remote = (s.remote.exchange tx n).2 := by
  rcases advance_cases h with ⟨-, -, rfl⟩ | ⟨d, -, -, rfl⟩ | ⟨-, -, rfl⟩ | ⟨-, -, rfl⟩ | ⟨w, -, -, rfl⟩ |
    ⟨p, -, -, rfl⟩ | ⟨p, -, -, rfl⟩ | ⟨p, -, -, -, rfl⟩ | ⟨p, -, -, -, rfl⟩ | ⟨p, -, -, -, rfl⟩ |
    ⟨p, w, -, -, -, -, rfl⟩
  case inr.inr.inr.inr.inr.inr.inl => exact .inr ⟨s.cmdByte p, s.draws, rfl⟩
  case inr.inr.inr.inr.inr.inr.inr.inl =>
    rw [payloadByte_eq]
    exact .inr ⟨s.txByte p, s.draws, rfl⟩
  all_goals exact .inl rfl

/-- A step leaves the remote, tells it that a frame begins, or exchanges one byte with it; reset leaves it (R141). -/
theorem step_remote {s t : State} (h : step s = .next t) :
    t.remote = s.remote ∨ t.remote = s.remote.onCsAssert ∨ ∃ tx n, t.remote = (s.remote.exchange tx n).2 := by
  rcases step_by_origin h with ⟨rest, -, rfl⟩ | rfl | ⟨i, he⟩ | ha
  · exact .inl rfl
  · exact .inl rfl
  · exact (exec_remote he).imp_right .inl
  · exact (advance_remote ha).imp_right .inr

/-- Settles O55: the start of a frame writes no byte of the memories, and an exchange writes at most one, below 32. -/
theorem stepKeepsTheRemotesForm : Obligations.StepKeepsTheRemotesForm := by
  intro s t hs h
  rw [remoteWf_iff] at hs ⊢
  rcases step_remote h with hr | hr | ⟨tx, n, hr⟩
  · rwa [hr]
  · rw [hr]
    exact remoteOk_onCsAssert hs
  · rw [hr]
    exact remoteOk_exchange hs tx n

end Sys2Proof.Proofs
end

section
/-!
An idle engine runs the instruction the host hands it (30_encoding.md R60, 40_transaction_framing.md R75), also when the
word is that of a row of the opcode table (log entry 3).
-/

namespace Sys2Proof.Proofs

open Sys2Proof.Machine Sys2Proof.Safety Sys2Proof.Laws

/-- The port of an idle engine gives the instruction a word stands for (R60, R75). -/
theorem fetchPort_of_idle {s : State} {w : PortWord} {i : Instr} (hi : s.isIdle = true) (hd : decode w = .ok i) :
    fetchPort w s = .run i s := by
  simp [fetchPort, State.busy, hi, hd]

/-- Settles O11: taking the event from the host's list leaves the engine idle, so its port is read. -/
theorem stepRunsTheDecodedInstruction : Obligations.StepRunsTheDecodedInstruction := by
  intro s w rest i hp hw hin hd
  have hrun : fetchPort w { s with inputs := rest } = .run i { s with inputs := rest } :=
    fetchPort_of_idle (isIdle_iff.2 ⟨hp, hw⟩) hd
  simp [step, fetch, hin, hrun]

/-- A table row's number is read through the port word it stands for (log entry 16). -/
theorem decode_tableWord {nbits w : Nat} {i : Instr} (h : decodeTableWord nbits w = some i) :
    decode (tableWord nbits w) = .ok i := by
  unfold decodeTableWord at h
  cases hd : decode (tableWord nbits w) with
  | ok j => simpa [hd] using h
  | rejected r => simp [hd] at h

/-- Settles O12: `withFetchWord` leaves the engine idle with the row's port word as the host's next event. -/
theorem fetchWordIsRunNext : Obligations.FetchWordIsRunNext := fun s nbits w i h =>
  stepRunsTheDecodedInstruction (s.withFetchWord nbits w) (tableWord nbits w) s.inputs i rfl rfl rfl (decode_tableWord h)

end Sys2Proof.Proofs
end
